-- ==== Sys2Proof/Word.lean ====
section
/-!
DEFINITION. The numbers the part counts its own things with (00_scope.md, 4.2), and the bytes and 64-bit words of
its three links (11_layouts.md).
-/
namespace Sys2Proof

/-- One byte of the control link. -/
abbrev Byte := BitVec 8

/-- One word of the reading port or of the Grade Port. -/
abbrev Word := BitVec 64

/-- A slot of the Illuminant Table, 0..511. -/
abbrev Slot := Fin 512

/-- A grade channel, 0..3. -/
abbrev Chan := Fin 4

/-- A zone of the 4 by 4 grid, 0..15. -/
abbrev Zone := Fin 16

/-- An aging class, 0..3. -/
abbrev ClassNo := Fin 4

/-- A block of 64 slots visited by one SWEEP STEP (R117). -/
abbrev Block := Fin 8

end Sys2Proof
end

