-- ==== Sys2Proof/Config.lean ====
section
/-!
DEFINITION. What the spec fixes for the part once and for all: the depths of its queues and the bytes of its link.
The spec leaves no result of a command open, so there is no free value here.
-/
namespace Sys2Proof.Config

/-- The blender carries up to four blends at once (R98). -/
def blendPlaces : Nat := 4

/-- The Grade Port queue holds at most eight records (R83). -/
def portDepth : Nat := 8

/-- The buffer keeps up to four anchor readings (R54). -/
def anchorPlaces : Nat := 4

/-- Scopes nest to a depth of three (R138). -/
def maxDepth : Nat := 3

/-- A SEARCH takes up to three parents (R96). -/
def maxParents : Nat := 3

/-- The part code READ STATUS reports (R173). -/
def partCode : Nat := 0xD512

/-- The greatest number a field of a request message can carry: three bytes of seven bits (R177). -/
def maxNumber : Nat := 2097151

/-- What the part shifts out where it has nothing to say (R180). -/
def filler : Byte := 0xFF

end Sys2Proof.Config
end

