-- ==== Sys2Proof/Syntax.lean ====
section
/-!
DEFINITION. The commands of the D512: one constructor of Instr per row of spec/opcode_table.json, with the row's
operands. The fields of a reading word are as wide as the word carries them (R47, R181). The fields of a request are
the numbers its message carries (R177 to R179), before any range check: the request's own rule judges them.
-/
namespace Sys2Proof

/-- The state of the link that a period's status byte names (R165). -/
inductive LinkStatus where
  | idle | working | replyReady
  deriving DecidableEq, Repr

/-- The means by which a request names a slot (R152, R177). -/
inductive Designator where
  | absolute (slot : Nat)
  | cursor
  | cursorOffset (offset : Int)
  | lastMatch
  | nextFree
  | lastFree
  deriving DecidableEq, Repr

/-- The illuminant signature (00_scope.md, 4.8): u and v 0..4095, level 0..127, tag 0..15 once checked. -/
structure Key where
  u : Nat
  v : Nat
  level : Nat
  tag : Nat
  deriving DecidableEq, Repr

/-- The part "gains" of a grade as a message carries it (R177, R179). -/
structure Gains where
  gR : Nat
  gG : Nat
  gB : Nat
  deriving DecidableEq, Repr

/-- The part "matrix" of a grade as a message carries it, row by row (R177, R179). -/
structure Matrix where
  m11 : Int
  m12 : Int
  m13 : Int
  m21 : Int
  m22 : Int
  m23 : Int
  m31 : Int
  m32 : Int
  m33 : Int
  deriving DecidableEq, Repr

/-- The part "reference" of an anchor body (R14, R179). -/
structure Reference where
  r : Nat
  g : Nat
  b : Nat
  deriving DecidableEq, Repr

/-- The part "limits" of an anchor body (R14, R179). -/
structure Limits where
  tolerance : Nat
  streakLimit : Nat
  deriving DecidableEq, Repr

/-- The parts of a body a PLACE or an AMEND carries: each is there or not, as its selector says (R177). -/
structure BodyParts where
  gains : Option Gains
  matrix : Option Matrix
  reference : Option Reference
  limits : Option Limits
  deriving DecidableEq, Repr

/-- The fields of a PLACE (R154, R179). The flags are the set over pin, unique, overwrite. -/
structure PlaceRequest where
  designator : Designator
  flags : Nat
  state : Nat
  key : Key
  cls : Option Nat
  body : BodyParts
  deriving DecidableEq, Repr

/-- The fields of an AMEND (R156, R179). -/
structure AmendRequest where
  designator : Designator
  expected : Option Nat
  key : Option Key
  cls : Option Nat
  body : BodyParts
  deriving DecidableEq, Repr

/-- The fields a SET PROFILE carries for its profile (R28, R179). -/
structure ProfileFields where
  du : Option Nat
  dv : Option Nat
  dl : Option Nat
  tagMode : Option Nat
  confidenceFloor : Option Nat
  doubtLimit : Option Nat
  learningReach : Option Nat
  learningRadius : Option Nat
  deriving DecidableEq, Repr

/-- The fields a SET CHANNEL carries for its channel (R85, R179). -/
structure ChannelFields where
  enabled : Option Nat
  zoneSet : Option Nat
  glideLength : Option Nat
  pace : Option Nat
  flapLimit : Option Nat
  flapWindow : Option Nat
  learn : Option Nat
  learnClass : Option Nat
  learnWeight : Option Nat
  deriving DecidableEq, Repr

/-- The fields a SET CLASS carries for its class (R113, R179). -/
structure ClassFields where
  prescale : Option Nat
  idleAt : Option Nat
  dormantAt : Option Nat
  retireAt : Option Nat
  deriving DecidableEq, Repr

/-- The commands: one constructor per row of spec/opcode_table.json. -/
inductive Instr where
  /-- POWER_ON (R24). -/
  | powerOn
  /-- RESET: the RESET line is asserted (R176). -/
  | reset
  /-- RESET_RELEASE: the RESET line is released (R176). -/
  | resetRelease
  /-- PART_READY: the fixed delay after release or power-on expires (R64, R176). -/
  | partReady
  /-- OPEN_WORD (R49). -/
  | openWord (number : BitVec 32) (tag : BitVec 4)
  /-- ZONE_WORD (R53). -/
  | zoneWord (zone : Zone) (u v : BitVec 12) (level : BitVec 7) (confidence : BitVec 8)
  /-- ANCHOR_WORD (R54). -/
  | anchorWord (slot : Slot) (channel : Chan) (r g b : BitVec 16)
  /-- CLOSE_WORD (R55). -/
  | closeWord
  /-- UNKNOWN_KIND_WORD, with the kind its bits 63..60 carry (R48, R181). -/
  | unknownKindWord (kind : BitVec 4)
  /-- FRAME_WORK_START (R58). -/
  | frameWorkStart
  /-- FRAME_MATCH: the grant of the waiting FRAME MATCH (R34). -/
  | frameMatch
  /-- ANCHOR_CHECK: the grant of the waiting ANCHOR operation (R126). -/
  | anchorCheck
  /-- SEARCH: the grant of the waiting SEARCH (R96). -/
  | search
  /-- BLEND_START (R98). -/
  | blendStart
  /-- BLEND_COMPLETE (R99). -/
  | blendComplete
  /-- INSTALL: the grant of the waiting INSTALL (R100). -/
  | install
  /-- SWEEP_START (R116). -/
  | sweepStart
  /-- SWEEP_STEP: the grant of the waiting SWEEP STEP (R118). -/
  | sweepStep
  /-- GRADE_PORT_PULL (R82). -/
  | gradePortPull
  /-- FETCH, in a period whose status byte named `shown`, clocked `extra` bytes past what the part has to say (R167). -/
  | fetch (shown : LinkStatus) (extra : Nat)
  /-- FETCH_CUT_SHORT: select released after `got` whole bytes of the reply (R167). -/
  | fetchCutShort (got : Nat)
  /-- MESSAGE_DROPPED: a message with this code, in a period whose status byte named `shown` (R166). -/
  | messageDropped (shown : LinkStatus) (code : Byte)
  /-- MESSAGE_CUT_SHORT: select released before the message with this code is whole (R168). -/
  | messageCutShort (code : Byte)
  /-- SELECT_ABORTED: select released before the first byte is whole (R165). -/
  | selectAborted
  /-- MALFORMED: a message with this code that cannot be decoded (R168). -/
  | malformed (code : Byte)
  /-- PLACE (R154). -/
  | place (q : PlaceRequest)
  /-- PLACE_GRANT (R155). -/
  | placeGrant
  /-- AMEND (R156). -/
  | amend (q : AmendRequest)
  /-- AMEND_GRANT (R156). -/
  | amendGrant
  /-- RETIRE (R160). -/
  | retire (d : Designator)
  /-- RETIRE_GRANT (R160). -/
  | retireGrant
  /-- SET_STATE, with the position of the state carried (R157, R178). -/
  | setState (d : Designator) (state : Nat)
  /-- SET_STATE_GRANT (R157). -/
  | setStateGrant
  /-- PIN (R158). -/
  | pin (d : Designator)
  /-- PIN_GRANT (R158). -/
  | pinGrant
  /-- UNPIN (R158). -/
  | unpin (d : Designator)
  /-- UNPIN_GRANT (R158). -/
  | unpinGrant
  /-- CLEAR_COUNTS (R159). -/
  | clearCounts (d : Designator)
  /-- CLEAR_COUNTS_GRANT (R159). -/
  | clearCountsGrant
  /-- READ_ENTRY (R161). -/
  | readEntry (d : Designator)
  /-- READ_ENTRY_GRANT (R161). -/
  | readEntryGrant
  /-- SEEK (R162). -/
  | seek (key : Key)
  /-- SEEK_GRANT (R39). -/
  | seekGrant
  /-- SEEK_NEXT (R163). -/
  | seekNext
  /-- SEEK_NEXT_GRANT (R39). -/
  | seekNextGrant
  /-- SET_CURSOR (R164). -/
  | setCursor (slot step : Nat)
  /-- SET_PROFILE (R28). -/
  | setProfile (profile : Nat) (f : ProfileFields)
  /-- SET_SERVICE_MATCH, with the filter as a set over LIVE, HELD, ANCHOR (R32, R178). -/
  | setServiceMatch (profile filter : Nat)
  /-- STAGE_PROFILE (R63). -/
  | stageProfile (profile : Nat)
  /-- SET_CHANNEL (R85). -/
  | setChannel (channel : Nat) (f : ChannelFields)
  /-- SET_CHANNEL_PERFORM: a waiting SET CHANNEL is performed (R86). -/
  | setChannelPerform
  /-- READ_CHANNEL (R87). -/
  | readChannel (channel : Nat)
  /-- SET_LEARNING (R109). -/
  | setLearning (reserve eviction : Option Nat)
  /-- READ_DERIVATIONS (R110). -/
  | readDerivations
  /-- SET_CLASS (R113). -/
  | setClass (cls : Nat) (f : ClassFields)
  /-- OPEN_SCOPE (R139). -/
  | openScope
  /-- CLOSE_SCOPE, with the position of the mode carried (R140, R178). -/
  | closeScope (mode : Nat)
  /-- DROP_WALK (R144). -/
  | dropWalk
  /-- KEEP_WALK (R147). -/
  | keepWalk
  /-- READ_STATUS (R173). -/
  | readStatus
  /-- READ_CAUSES (R172). -/
  | readCauses
  /-- CLEAR_CAUSES, with the set carried (R172). -/
  | clearCauses (causes : Nat)
  /-- SET_NOTICE_MASK, with the set carried (R171). -/
  | setNoticeMask (causes : Nat)
  /-- RESTART (R174). -/
  | restart
  /-- RESTART_WALK (R174). -/
  | restartWalk
  /-- CLEAR_TABLE (R175). -/
  | clearTable
  /-- CLEAR_TABLE_WALK (R175). -/
  | clearTableWalk
  deriving DecidableEq, Repr

end Sys2Proof
end

