-- ==== Sys2Proof/WellFormed.lean ====
section
/-!
DEFINITION. What a command must satisfy to be one the outside can send: the numbers of a request fit the message's
number fields (R177), an unknown kind is unknown (R181), and the codes of the period rows are codes such a period can
open with (R166, R168, R179). Ranges are no part of it: a value out of range is a request that is refused.
-/
namespace Sys2Proof

/-- The unsigned number that stands for a signed value (R177): 0, −1, 1, −2, 2 go to 0, 1, 2, 3, 4. -/
def signedCode (v : Int) : Nat := if 0 ≤ v then 2 * v.toNat else 2 * (-v).toNat - 1

/-- A number a message field can carry (R177). -/
def numberOk (n : Nat) : Bool := decide (n ≤ Config.maxNumber)

/-- A signed value a message field can carry (R177). -/
def signedOk (v : Int) : Bool := numberOk (signedCode v)

/-- A field that may be absent. -/
def optionOk {α : Type} (ok : α → Bool) : Option α → Bool
  | none => true
  | some x => ok x

/-- A designator a message can carry. -/
def Designator.wf : Designator → Bool
  | .absolute n => numberOk n
  | .cursorOffset o => signedOk o
  | .cursor => true
  | .lastMatch => true
  | .nextFree => true
  | .lastFree => true

/-- A key a message can carry. -/
def Key.wf (k : Key) : Bool := numberOk k.u && numberOk k.v && numberOk k.level && numberOk k.tag

/-- Gains a message can carry. -/
def Gains.wf (g : Gains) : Bool := numberOk g.gR && numberOk g.gG && numberOk g.gB

/-- A matrix a message can carry. -/
def Matrix.wf (m : Matrix) : Bool :=
  signedOk m.m11 && signedOk m.m12 && signedOk m.m13 && signedOk m.m21 && signedOk m.m22 && signedOk m.m23 &&
    signedOk m.m31 && signedOk m.m32 && signedOk m.m33

/-- A reference a message can carry. -/
def Reference.wf (r : Reference) : Bool := numberOk r.r && numberOk r.g && numberOk r.b

/-- Limits a message can carry. -/
def Limits.wf (l : Limits) : Bool := numberOk l.tolerance && numberOk l.streakLimit

/-- The parts of a body a message can carry. -/
def BodyParts.wf (b : BodyParts) : Bool :=
  optionOk Gains.wf b.gains && optionOk Matrix.wf b.matrix && optionOk Reference.wf b.reference &&
    optionOk Limits.wf b.limits

/-- A PLACE a message can carry. -/
def PlaceRequest.wf (q : PlaceRequest) : Bool :=
  q.designator.wf && numberOk q.flags && numberOk q.state && q.key.wf && optionOk numberOk q.cls && q.body.wf

/-- An AMEND a message can carry. -/
def AmendRequest.wf (q : AmendRequest) : Bool :=
  q.designator.wf && optionOk numberOk q.expected && optionOk Key.wf q.key && optionOk numberOk q.cls && q.body.wf

/-- Profile fields a message can carry. -/
def ProfileFields.wf (f : ProfileFields) : Bool :=
  optionOk numberOk f.du && optionOk numberOk f.dv && optionOk numberOk f.dl && optionOk numberOk f.tagMode &&
    optionOk numberOk f.confidenceFloor && optionOk numberOk f.doubtLimit && optionOk numberOk f.learningReach &&
    optionOk numberOk f.learningRadius

/-- Channel fields a message can carry. -/
def ChannelFields.wf (f : ChannelFields) : Bool :=
  optionOk numberOk f.enabled && optionOk numberOk f.zoneSet && optionOk numberOk f.glideLength &&
    optionOk numberOk f.pace && optionOk numberOk f.flapLimit && optionOk numberOk f.flapWindow &&
    optionOk numberOk f.learn && optionOk numberOk f.learnClass && optionOk numberOk f.learnWeight

/-- Class fields a message can carry. -/
def ClassFields.wf (f : ClassFields) : Bool :=
  optionOk numberOk f.prescale && optionOk numberOk f.idleAt && optionOk numberOk f.dormantAt &&
    optionOk numberOk f.retireAt

/-- The request codes whose messages carry fields (R179): only such a message can be cut short or hold an undecodable
field. -/
def codesWithFields : List Byte :=
  [0x10, 0x11, 0x12, 0x13, 0x14, 0x15, 0x16, 0x17, 0x18, 0x1A, 0x20, 0x21, 0x22, 0x28, 0x29, 0x30, 0x38, 0x41, 0x4A,
   0x4B]

/-- The request codes whose messages carry no field (R179). -/
def codesAlone : List Byte := [0x19, 0x31, 0x40, 0x48, 0x49, 0x50, 0x51]

/-- The kinds of reading words that are known (R181). -/
def knownKinds : List (BitVec 4) := [1, 2, 3, 4]

/-- The commands the outside can send. -/
def Instr.wf : Instr → Bool
  | .powerOn => true
  | .reset => true
  | .resetRelease => true
  | .partReady => true
  | .openWord _ _ => true
  | .zoneWord _ _ _ _ _ => true
  | .anchorWord _ _ _ _ _ => true
  | .closeWord => true
  | .unknownKindWord kind => !knownKinds.contains kind
  | .frameWorkStart => true
  | .frameMatch => true
  | .anchorCheck => true
  | .search => true
  | .blendStart => true
  | .blendComplete => true
  | .install => true
  | .sweepStart => true
  | .sweepStep => true
  | .gradePortPull => true
  | .fetch _ _ => true
  | .fetchCutShort _ => true
  | .messageDropped shown code => shown != .idle && code != 0
  | .messageCutShort code => codesWithFields.contains code
  | .selectAborted => true
  | .malformed code => code != 0 && !codesAlone.contains code
  | .place q => q.wf
  | .placeGrant => true
  | .amend q => q.wf
  | .amendGrant => true
  | .retire d => d.wf
  | .retireGrant => true
  | .setState d state => d.wf && numberOk state
  | .setStateGrant => true
  | .pin d => d.wf
  | .pinGrant => true
  | .unpin d => d.wf
  | .unpinGrant => true
  | .clearCounts d => d.wf
  | .clearCountsGrant => true
  | .readEntry d => d.wf
  | .readEntryGrant => true
  | .seek key => key.wf
  | .seekGrant => true
  | .seekNext => true
  | .seekNextGrant => true
  | .setCursor slot step => numberOk slot && numberOk step
  | .setProfile profile f => numberOk profile && f.wf
  | .setServiceMatch profile filter => numberOk profile && numberOk filter
  | .stageProfile profile => numberOk profile
  | .setChannel channel f => numberOk channel && f.wf
  | .setChannelPerform => true
  | .readChannel channel => numberOk channel
  | .setLearning reserve eviction => optionOk numberOk reserve && optionOk numberOk eviction
  | .readDerivations => true
  | .setClass cls f => numberOk cls && f.wf
  | .openScope => true
  | .closeScope mode => numberOk mode
  | .dropWalk => true
  | .keepWalk => true
  | .readStatus => true
  | .readCauses => true
  | .clearCauses causes => numberOk causes
  | .setNoticeMask causes => numberOk causes
  | .restart => true
  | .restartWalk => true
  | .clearTable => true
  | .clearTableWalk => true

end Sys2Proof
end

