-- ==== Sys2Proof/Decode.lean ====
section
/-!
DEFINITION. From bits to commands: the table's own words (none: its rows give no bits), reading words (R181), and the
select periods of the control link (R165, R166, R168) with the request messages they carry (R177 to R179), with the
encoders beside them.
-/
namespace Sys2Proof

/-- The command a word spells by the bits of spec/opcode_table.json. No row of the table gives bits. -/
def decodeTableWord (_nbits _w : Nat) : Option Instr := none

/-! ### Reading words (R181) -/

/-- The command a reading word is; bits marked "ignored" are ignored, and the twelve other kinds are unknown. -/
def decodeReadingWord (w : Word) : Instr :=
  match (w.extractLsb' 60 4).toNat with
  | 1 => .openWord (w.extractLsb' 0 32) (w.extractLsb' 32 4)
  | 2 =>
    .zoneWord (Fin.ofNat 16 (w.extractLsb' 39 4).toNat) (w.extractLsb' 0 12) (w.extractLsb' 12 12)
      (w.extractLsb' 24 7) (w.extractLsb' 31 8)
  | 3 =>
    .anchorWord (Fin.ofNat 512 (w.extractLsb' 50 9).toNat) (Fin.ofNat 4 (w.extractLsb' 48 2).toNat)
      (w.extractLsb' 0 16) (w.extractLsb' 16 16) (w.extractLsb' 32 16)
  | 4 => .closeWord
  | _ => .unknownKindWord (w.extractLsb' 60 4)

/-- The reading word of a command, its ignored bits 0; commands that are no reading word give the word of all zeros. -/
def encodeReadingWord : Instr → Word
  | .openWord number tag => (1#4 ++ 0#24 ++ tag ++ number : BitVec 64)
  | .zoneWord zone u v level confidence =>
    (2#4 ++ 0#17 ++ BitVec.ofNat 4 zone.val ++ confidence ++ level ++ v ++ u : BitVec 64)
  | .anchorWord slot channel r g b =>
    (3#4 ++ 0#1 ++ BitVec.ofNat 9 slot.val ++ BitVec.ofNat 2 channel.val ++ b ++ g ++ r : BitVec 64)
  | .closeWord => (4#4 ++ 0#60 : BitVec 64)
  | .unknownKindWord kind => (kind ++ 0#60 : BitVec 64)
  | _ => 0

/-! ### Fields of request messages (R177) -/

/-- What the bytes received so far make of a field: more are needed, a byte shows that it cannot be decoded, or a value;
the last two with the bytes after it. -/
inductive Parsed (α : Type) where
  | more
  | bad (rest : List Byte)
  | got (x : α) (rest : List Byte)
  deriving DecidableEq, Repr

/-- What follows a field, from its value and the bytes after it. -/
def Parsed.andThen {α β : Type} (x : Parsed α) (f : α → List Byte → Parsed β) : Parsed β :=
  match x with
  | .more => .more
  | .bad rest => .bad rest
  | .got a rest => f a rest

/-- A field's value rewritten. -/
def Parsed.map {α β : Type} (f : α → β) (x : Parsed α) : Parsed β := x.andThen fun a rest => .got (f a) rest

/-- The bytes of a number below `limit`, from the groups of seven bits still allowed, the weight of the next group and
the value of those before it. A fault is judged at the first byte after which no number below `limit` can come out: one
that takes the value to the limit, or a last allowed byte that continues (R177; log entry 26). -/
def parseGroups (limit : Nat) : (groups weight value : Nat) → List Byte → Parsed Nat
  | _, _, _, [] => .more
  | 0, _, _, _ :: rest => .bad rest
  | groups + 1, weight, value, b :: rest =>
    if limit ≤ value + weight * (b.toNat % 128) then .bad rest
    else if b.toNat < 128 then .got (value + weight * b.toNat) rest
    else if groups = 0 then .bad rest
    else parseGroups limit groups (128 * weight) (value + weight * (b.toNat % 128)) rest

/-- A number below `limit`: one to three bytes of seven bits, least significant group first. -/
def parseBelow (limit : Nat) : List Byte → Parsed Nat := parseGroups limit 3 1 0

/-- An unsigned number: any value three groups can carry. -/
def parseNumber : List Byte → Parsed Nat := parseBelow (Config.maxNumber + 1)

/-- The signed value an unsigned number stands for. -/
def signedOf (n : Nat) : Int := if n % 2 = 0 then (n / 2 : Nat) else -((n / 2 : Nat) : Int) - 1

/-- A signed number. -/
def parseSigned (l : List Byte) : Parsed Int := (parseNumber l).map signedOf

/-- A selector over `k` parts: a bit beyond them is a fault, at the byte that sets it (log entry 26). -/
def parseSelector (k : Nat) : List Byte → Parsed Nat := parseBelow (2 ^ k)

/-- A part of a selector, sent when its bit is set. -/
def parsePart {α : Type} (selector bit : Nat) (p : List Byte → Parsed α) (l : List Byte) : Parsed (Option α) :=
  if selector.testBit bit then (p l).map some else .got none l

/-- A designator: a kind, and a slot number or an offset after two of the kinds; a kind beyond the list is a fault, at
the byte that takes it there (log entry 26). -/
def parseDesignator (l : List Byte) : Parsed Designator :=
  (parseBelow 6 l).andThen fun kind rest =>
    match kind with
    | 0 => (parseNumber rest).map .absolute
    | 1 => .got .cursor rest
    | 2 => (parseSigned rest).map .cursorOffset
    | 3 => .got .lastMatch rest
    | 4 => .got .nextFree rest
    | 5 => .got .lastFree rest
    | _ => .bad rest

/-- A key: u, v, level, tag. -/
def parseKey (l : List Byte) : Parsed Key :=
  (parseNumber l).andThen fun u l => (parseNumber l).andThen fun v l => (parseNumber l).andThen fun level l =>
    (parseNumber l).map fun tag => { u := u, v := v, level := level, tag := tag }

/-- The gains: gR, gG, gB. -/
def parseGains (l : List Byte) : Parsed Gains :=
  (parseNumber l).andThen fun r l => (parseNumber l).andThen fun g l =>
    (parseNumber l).map fun b => { gR := r, gG := g, gB := b }

/-- The matrix: m11 to m33, row by row. -/
def parseMatrix (l : List Byte) : Parsed Matrix :=
  (parseSigned l).andThen fun m11 l => (parseSigned l).andThen fun m12 l => (parseSigned l).andThen fun m13 l =>
    (parseSigned l).andThen fun m21 l => (parseSigned l).andThen fun m22 l => (parseSigned l).andThen fun m23 l =>
      (parseSigned l).andThen fun m31 l => (parseSigned l).andThen fun m32 l =>
        (parseSigned l).map fun m33 =>
          { m11 := m11, m12 := m12, m13 := m13, m21 := m21, m22 := m22, m23 := m23, m31 := m31, m32 := m32, m33 := m33 }

/-- The reference: r, g, b. -/
def parseReference (l : List Byte) : Parsed Reference :=
  (parseNumber l).andThen fun r l => (parseNumber l).andThen fun g l =>
    (parseNumber l).map fun b => { r := r, g := g, b := b }

/-- The limits: tolerance, streak limit. -/
def parseLimits (l : List Byte) : Parsed Limits :=
  (parseNumber l).andThen fun t l => (parseNumber l).map fun k => { tolerance := t, streakLimit := k }

/-- The four parts of a body, whose selector bits begin at `bit`. -/
def parseBody (selector bit : Nat) (l : List Byte) : Parsed BodyParts :=
  (parsePart selector bit parseGains l).andThen fun g l =>
    (parsePart selector (bit + 1) parseMatrix l).andThen fun m l =>
      (parsePart selector (bit + 2) parseReference l).andThen fun r l =>
        (parsePart selector (bit + 3) parseLimits l).map fun k =>
          { gains := g, matrix := m, reference := r, limits := k }

/-- The fields of a PLACE (R179). -/
def parsePlace (l : List Byte) : Parsed PlaceRequest :=
  (parseDesignator l).andThen fun d l => (parseNumber l).andThen fun flags l => (parseNumber l).andThen fun st l =>
    (parseKey l).andThen fun key l => (parseSelector 5 l).andThen fun sel l =>
      (parsePart sel 0 parseNumber l).andThen fun cls l =>
        (parseBody sel 1 l).map fun b =>
          { designator := d, flags := flags, state := st, key := key, cls := cls, body := b }

/-- The fields of an AMEND (R179). -/
def parseAmend (l : List Byte) : Parsed AmendRequest :=
  (parseDesignator l).andThen fun d l => (parseSelector 7 l).andThen fun sel l =>
    (parsePart sel 0 parseNumber l).andThen fun expected l => (parsePart sel 1 parseKey l).andThen fun key l =>
      (parsePart sel 2 parseNumber l).andThen fun cls l =>
        (parseBody sel 3 l).map fun b =>
          { designator := d, expected := expected, key := key, cls := cls, body := b }

/-- The fields of a profile (R179). -/
def parseProfileFields (l : List Byte) : Parsed ProfileFields :=
  (parseSelector 8 l).andThen fun sel l => (parsePart sel 0 parseNumber l).andThen fun a l =>
    (parsePart sel 1 parseNumber l).andThen fun b l => (parsePart sel 2 parseNumber l).andThen fun c l =>
      (parsePart sel 3 parseNumber l).andThen fun d l => (parsePart sel 4 parseNumber l).andThen fun e l =>
        (parsePart sel 5 parseNumber l).andThen fun f l => (parsePart sel 6 parseNumber l).andThen fun g l =>
          (parsePart sel 7 parseNumber l).map fun h =>
            { du := a, dv := b, dl := c, tagMode := d, confidenceFloor := e, doubtLimit := f, learningReach := g
              learningRadius := h }

/-- The fields of a channel (R179). -/
def parseChannelFields (l : List Byte) : Parsed ChannelFields :=
  (parseSelector 9 l).andThen fun sel l => (parsePart sel 0 parseNumber l).andThen fun a l =>
    (parsePart sel 1 parseNumber l).andThen fun b l => (parsePart sel 2 parseNumber l).andThen fun c l =>
      (parsePart sel 3 parseNumber l).andThen fun d l => (parsePart sel 4 parseNumber l).andThen fun e l =>
        (parsePart sel 5 parseNumber l).andThen fun f l => (parsePart sel 6 parseNumber l).andThen fun g l =>
          (parsePart sel 7 parseNumber l).andThen fun h l => (parsePart sel 8 parseNumber l).map fun i =>
            { enabled := a, zoneSet := b, glideLength := c, pace := d, flapLimit := e, flapWindow := f, learn := g
              learnClass := h, learnWeight := i }

/-- The fields of an aging class (R179). -/
def parseClassFields (l : List Byte) : Parsed ClassFields :=
  (parseSelector 4 l).andThen fun sel l => (parsePart sel 0 parseNumber l).andThen fun a l =>
    (parsePart sel 1 parseNumber l).andThen fun b l => (parsePart sel 2 parseNumber l).andThen fun c l =>
      (parsePart sel 3 parseNumber l).map fun d => { prescale := a, idleAt := b, dormantAt := c, retireAt := d }

/-- The fields of a SET LEARNING (R179). -/
def parseLearning (l : List Byte) : Parsed Instr :=
  (parseSelector 2 l).andThen fun sel l => (parsePart sel 0 parseNumber l).andThen fun a l =>
    (parsePart sel 1 parseNumber l).map fun b => .setLearning a b

/-- A request message from its code and the bytes after it (R168, R179): an unknown code is a fault at once. -/
def parseMessage (code : Byte) (l : List Byte) : Parsed Instr :=
  match code.toNat with
  | 0x10 => (parsePlace l).map .place
  | 0x11 => (parseAmend l).map .amend
  | 0x12 => (parseDesignator l).map .retire
  | 0x13 => (parseDesignator l).andThen fun d l => (parseNumber l).map fun n => .setState d n
  | 0x14 => (parseDesignator l).map .pin
  | 0x15 => (parseDesignator l).map .unpin
  | 0x16 => (parseDesignator l).map .clearCounts
  | 0x17 => (parseDesignator l).map .readEntry
  | 0x18 => (parseKey l).map .seek
  | 0x19 => .got .seekNext l
  | 0x1A => (parseNumber l).andThen fun a l => (parseNumber l).map fun b => .setCursor a b
  | 0x20 => (parseNumber l).andThen fun a l => (parseProfileFields l).map fun f => .setProfile a f
  | 0x21 => (parseNumber l).andThen fun a l => (parseNumber l).map fun b => .setServiceMatch a b
  | 0x22 => (parseNumber l).map .stageProfile
  | 0x28 => (parseNumber l).andThen fun a l => (parseChannelFields l).map fun f => .setChannel a f
  | 0x29 => (parseNumber l).map .readChannel
  | 0x30 => parseLearning l
  | 0x31 => .got .readDerivations l
  | 0x38 => (parseNumber l).andThen fun a l => (parseClassFields l).map fun f => .setClass a f
  | 0x40 => .got .openScope l
  | 0x41 => (parseNumber l).map .closeScope
  | 0x48 => .got .readStatus l
  | 0x49 => .got .readCauses l
  | 0x4A => (parseNumber l).map .clearCauses
  | 0x4B => (parseNumber l).map .setNoticeMask
  | 0x50 => .got .restart l
  | 0x51 => .got .clearTable l
  | _ => .bad l

/-! ### Select periods (R165, R166, R168) -/

/-- The command a select period is, from the state its status byte names, the number of bytes of the reply waiting, and
the bytes the host shifts in before it releases select. -/
def selectPeriod (shown : LinkStatus) (replyLength : Nat) : List Byte → Instr
  | [] => .selectAborted
  | code :: l =>
    if code = 0 then
      match shown with
      | .replyReady =>
        if l.length < replyLength then .fetchCutShort l.length else .fetch .replyReady (l.length - replyLength)
      | other => .fetch other l.length
    else
      match shown with
      | .idle =>
        match parseMessage code l with
        | .got i _ => i
        | .bad _ => .malformed code
        | .more => .messageCutShort code
      | other => .messageDropped other code

/-- The number of bytes a period clocks after its message is whole, or after the byte that shows that it cannot be decoded
(R168); nothing for a period without such a message. -/
def bytesAfterMessage (shown : LinkStatus) : List Byte → Option Nat
  | [] => none
  | code :: l =>
    if code = 0 then none
    else
      match shown with
      | .idle =>
        match parseMessage code l with
        | .got _ rest => some rest.length
        | .bad rest => some rest.length
        | .more => none
      | _ => none

/-! ### The encoder (R177, R179) -/

/-- An unsigned number in as few bytes as it needs. -/
def numberBytes (n : Nat) : List Byte :=
  if n < 128 then [BitVec.ofNat 8 n]
  else if n < 16384 then [BitVec.ofNat 8 (128 + n % 128), BitVec.ofNat 8 (n / 128)]
  else [BitVec.ofNat 8 (128 + n % 128), BitVec.ofNat 8 (128 + n / 128 % 128), BitVec.ofNat 8 (n / 16384)]

/-- A signed number. -/
def signedBytes (v : Int) : List Byte := numberBytes (signedCode v)

/-- A selector from which of its parts are carried, in the order of their bits. -/
def selectorOf : List Bool → Nat
  | [] => 0
  | b :: l => b.toNat + 2 * selectorOf l

/-- A part that is sent when it is carried. -/
def partBytes {α : Type} (f : α → List Byte) : Option α → List Byte
  | none => []
  | some x => f x

/-- A designator. -/
def Designator.bytes : Designator → List Byte
  | .absolute n => numberBytes 0 ++ numberBytes n
  | .cursor => numberBytes 1
  | .cursorOffset o => numberBytes 2 ++ signedBytes o
  | .lastMatch => numberBytes 3
  | .nextFree => numberBytes 4
  | .lastFree => numberBytes 5

/-- A key. -/
def Key.bytes (k : Key) : List Byte := numberBytes k.u ++ numberBytes k.v ++ numberBytes k.level ++ numberBytes k.tag

/-- The gains. -/
def Gains.bytes (g : Gains) : List Byte := numberBytes g.gR ++ numberBytes g.gG ++ numberBytes g.gB

/-- The matrix, row by row. -/
def Matrix.bytes (m : Matrix) : List Byte :=
  signedBytes m.m11 ++ signedBytes m.m12 ++ signedBytes m.m13 ++ signedBytes m.m21 ++ signedBytes m.m22 ++
    signedBytes m.m23 ++ signedBytes m.m31 ++ signedBytes m.m32 ++ signedBytes m.m33

/-- The reference. -/
def Reference.bytes (r : Reference) : List Byte := numberBytes r.r ++ numberBytes r.g ++ numberBytes r.b

/-- The limits. -/
def Limits.bytes (l : Limits) : List Byte := numberBytes l.tolerance ++ numberBytes l.streakLimit

/-- Which parts of a body are carried, in the order of their bits. -/
def BodyParts.carried (b : BodyParts) : List Bool :=
  [b.gains.isSome, b.matrix.isSome, b.reference.isSome, b.limits.isSome]

/-- The carried parts of a body. -/
def BodyParts.bytes (b : BodyParts) : List Byte :=
  partBytes Gains.bytes b.gains ++ partBytes Matrix.bytes b.matrix ++ partBytes Reference.bytes b.reference ++
    partBytes Limits.bytes b.limits

/-- The fields of a PLACE. -/
def PlaceRequest.bytes (q : PlaceRequest) : List Byte :=
  q.designator.bytes ++ numberBytes q.flags ++ numberBytes q.state ++ q.key.bytes ++
    numberBytes (selectorOf (q.cls.isSome :: q.body.carried)) ++ partBytes numberBytes q.cls ++ q.body.bytes

/-- The fields of an AMEND. -/
def AmendRequest.bytes (q : AmendRequest) : List Byte :=
  q.designator.bytes ++
    numberBytes (selectorOf (q.expected.isSome :: q.key.isSome :: q.cls.isSome :: q.body.carried)) ++
    partBytes numberBytes q.expected ++ partBytes Key.bytes q.key ++ partBytes numberBytes q.cls ++ q.body.bytes

/-- A selector over numbers, and the numbers carried. -/
def numberParts (l : List (Option Nat)) : List Byte :=
  numberBytes (selectorOf (l.map Option.isSome)) ++ l.flatMap (partBytes numberBytes)

/-- The fields of a profile. -/
def ProfileFields.bytes (f : ProfileFields) : List Byte :=
  numberParts
    [f.du, f.dv, f.dl, f.tagMode, f.confidenceFloor, f.doubtLimit, f.learningReach, f.learningRadius]

/-- The fields of a channel. -/
def ChannelFields.bytes (f : ChannelFields) : List Byte :=
  numberParts
    [f.enabled, f.zoneSet, f.glideLength, f.pace, f.flapLimit, f.flapWindow, f.learn, f.learnClass, f.learnWeight]

/-- The fields of an aging class. -/
def ClassFields.bytes (f : ClassFields) : List Byte := numberParts [f.prescale, f.idleAt, f.dormantAt, f.retireAt]

/-- The message of a request, code first; commands that are no request have none. -/
def encodeMessage : Instr → List Byte
  | .place q => 0x10 :: q.bytes
  | .amend q => 0x11 :: q.bytes
  | .retire d => 0x12 :: d.bytes
  | .setState d state => 0x13 :: (d.bytes ++ numberBytes state)
  | .pin d => 0x14 :: d.bytes
  | .unpin d => 0x15 :: d.bytes
  | .clearCounts d => 0x16 :: d.bytes
  | .readEntry d => 0x17 :: d.bytes
  | .seek key => 0x18 :: key.bytes
  | .seekNext => [0x19]
  | .setCursor slot step => 0x1A :: (numberBytes slot ++ numberBytes step)
  | .setProfile profile f => 0x20 :: (numberBytes profile ++ f.bytes)
  | .setServiceMatch profile filter => 0x21 :: (numberBytes profile ++ numberBytes filter)
  | .stageProfile profile => 0x22 :: numberBytes profile
  | .setChannel channel f => 0x28 :: (numberBytes channel ++ f.bytes)
  | .readChannel channel => 0x29 :: numberBytes channel
  | .setLearning reserve eviction => 0x30 :: numberParts [reserve, eviction]
  | .readDerivations => [0x31]
  | .setClass cls f => 0x38 :: (numberBytes cls ++ f.bytes)
  | .openScope => [0x40]
  | .closeScope mode => 0x41 :: numberBytes mode
  | .readStatus => [0x48]
  | .readCauses => [0x49]
  | .clearCauses causes => 0x4A :: numberBytes causes
  | .setNoticeMask causes => 0x4B :: numberBytes causes
  | .restart => [0x50]
  | .clearTable => [0x51]
  | _ => []

end Sys2Proof
end

