-- ==== Sys2Proof/Machine/State.lean ====
section
/-!
DEFINITION. The state of the D512, block by block as 00_scope.md 3.1 lists them, as plain data, and State.reset.
What the spec defines as a view of other state (a slot's state, the free ends, the counts, the attention line) is
computed in Ops.lean and Flags.lean and stored nowhere else (log entry 7). Numbers are plain numbers; their ranges are
those of the spec, kept by every command.
-/
namespace Sys2Proof.Machine

/-! ### The Illuminant Table (01) -/

/-- The state of a slot (R4), in the order of R178. -/
inductive SlotState where
  | empty | live | held | anchor
  deriving DecidableEq, Repr

/-- The state of an illuminant entry (R4). -/
inductive LightState where
  | live | held
  deriving DecidableEq, Repr

/-- The activity stage of an illuminant entry (R12). -/
inductive Vigour where
  | active | idle | dormant
  deriving DecidableEq, Repr

/-- The last outcome of an anchor (R14). -/
inductive AnchorOutcome where
  | none | pass | fail | deferred
  deriving DecidableEq, Repr

/-- A grade (00_scope.md, 4.8): gains 0..16383, coefficients −16384..16383. -/
structure Grade where
  gR : Int
  gG : Int
  gB : Int
  m11 : Int
  m12 : Int
  m13 : Int
  m21 : Int
  m22 : Int
  m23 : Int
  m31 : Int
  m32 : Int
  m33 : Int
  deriving DecidableEq, Repr

/-- The unity grade (00_scope.md, 4.8). -/
def Grade.unity : Grade :=
  { gR := 4096, gG := 4096, gB := 4096
    m11 := 4096, m12 := 0, m13 := 0, m21 := 0, m22 := 4096, m23 := 0, m31 := 0, m32 := 0, m33 := 4096 }

/-- The body of a LIVE or HELD entry (R11, R12, R13). -/
structure Illuminant where
  grade : Grade
  cls : ClassNo
  vigour : Vigour
  idleTicks : Nat
  touched : Bool
  takeovers : Nat
  doubt : Nat
  deriving DecidableEq, Repr

/-- The supplied body of an anchor (R14). -/
structure Supplied where
  reference : Reference
  limits : Limits
  deriving DecidableEq, Repr

/-- The body of an ANCHOR entry (R14). -/
structure AnchorBody where
  supplied : Supplied
  failStreak : Nat
  lastOutcome : AnchorOutcome
  deriving DecidableEq, Repr

/-- What an entry holds by its kind (R6): an entry never passes between the two kinds (R5). -/
inductive Body where
  | illuminant (state : LightState) (light : Illuminant)
  | anchor (body : AnchorBody)
  deriving DecidableEq, Repr

/-- The state, the supplied body and the class of an entry by its kind: what a PLACE supplies (R154) and what a shadow
keeps (R16). -/
inductive BodyCopy where
  | illuminant (state : LightState) (grade : Grade) (cls : ClassNo)
  | anchor (supplied : Supplied)
  deriving DecidableEq, Repr

/-- A copy of an entry's earlier placement (R16). -/
structure Shadow where
  depth : Nat
  key : Key
  pin : Bool
  body : BodyCopy
  deriving DecidableEq, Repr

/-- One item of a parents list (R15). -/
structure ParentRef where
  slot : Slot
  generation : Nat
  deriving DecidableEq, Repr

/-- How an entry was created, and the record of its making a LEARNED entry carries (R8, R15). -/
inductive Origin where
  | authored
  | learned (parents : List ParentRef) (learnedAt : Nat)
  deriving DecidableEq, Repr

/-- The fields of a non-EMPTY slot beside its generation (R6). -/
structure Entry where
  origin : Origin
  key : Key
  stamp : Nat
  pin : Bool
  shadow : Option Shadow
  body : Body
  deriving DecidableEq, Repr

/-- One slot's record: a generation always, an entry unless the slot is EMPTY (R6). -/
structure Cell where
  generation : Nat
  entry : Option Entry
  deriving DecidableEq, Repr

/-- An EMPTY slot with generation 0 (R24). -/
def Cell.blank : Cell := { generation := 0, entry := none }

/-- The 512 slots (R1). -/
abbrev Table := Vector Cell 512

/-! ### Matching (02) -/

/-- The tag mode of a profile (R26). -/
inductive TagMode where
  | exact | any
  deriving DecidableEq, Repr

/-- A compare profile (R27). -/
structure Profile where
  du : Nat
  dv : Nat
  dl : Nat
  tagMode : TagMode
  confidenceFloor : Nat
  doubtLimit : Nat
  learningReach : Nat
  learningRadius : Nat
  deriving DecidableEq, Repr

/-- The power-on values of R27. -/
def Profile.powerOn : Profile :=
  { du := 24, dv := 24, dl := 12, tagMode := .exact
    confidenceFloor := 16, doubtLimit := 3, learningReach := 24, learningRadius := 640 }

/-- The FRAME context (R29). -/
structure FrameContext where
  selected : Fin 2
  staged : Option (Fin 2)
  deriving DecidableEq, Repr

/-- The SERVICE filter, a subset of LIVE, HELD, ANCHOR (R31). -/
structure Filter where
  live : Bool
  held : Bool
  anchor : Bool
  deriving DecidableEq, Repr

/-- The cursor's step (R33). -/
inductive CursorStep where
  | none | up | down
  deriving DecidableEq, Repr

/-- The SERVICE context (R31). -/
structure ServiceContext where
  selected : Fin 2
  filter : Filter
  cursor : Slot
  cursorStep : CursorStep
  lastMatch : Option Slot
  multiple : Bool
  matchCount : Nat
  lastSeekKey : Option Key
  deriving DecidableEq, Repr

/-- The Match Unit (02): two profiles and two contexts. -/
structure MatchUnit where
  profiles : Vector Profile 2
  frame : FrameContext
  service : ServiceContext
  deriving DecidableEq, Repr

/-- The mode of a FRAME match (R34). -/
inductive MatchMode where
  | openMode | hold | locked
  deriving DecidableEq, Repr

/-! ### Readings and the Frame Path (03) -/

/-- A buffered zone reading (R53). -/
structure ZoneReading where
  u : Nat
  v : Nat
  level : Nat
  confidence : Nat
  deriving DecidableEq, Repr

/-- A kept anchor reading (R54). -/
structure AnchorReading where
  slot : Slot
  channel : Chan
  r : Nat
  g : Nat
  b : Nat
  deriving DecidableEq, Repr

/-- What is recorded of the open frame beside its readings (R50): its number and tag, which the frame path also keeps once
the frame is no longer open (R52, R51), and its release mark. -/
structure OpenFrame where
  number : Nat
  tag : Nat
  release : Bool
  deriving DecidableEq, Repr

/-- The receiving state (03, 3.2); OPEN holds the record of the open frame. -/
inductive Receiving where
  | idle
  | opened (frame : OpenFrame)
  | discarding
  deriving DecidableEq, Repr

/-- A closed frame as the closing side holds it (R56). -/
structure ClosedFrame where
  number : Nat
  tag : Nat
  zones : Vector (Option ZoneReading) 16
  anchors : List AnchorReading
  release : Bool
  deriving DecidableEq, Repr

/-- A channel reading and its total confidence W (R59). -/
structure ChannelReading where
  key : Key
  weight : Nat
  deriving DecidableEq, Repr

/-- What the start of a frame's work gives a channel (R58): nothing if it is outside the channel set. -/
inductive ChannelInput where
  | outside
  | dark
  | reading (r : ChannelReading)
  deriving DecidableEq, Repr

/-- A frame in work (R58, R60): the channel whose part is in progress, and the anchor readings of that part not yet
submitted. -/
structure FrameWork where
  frame : ClosedFrame
  inputs : Vector ChannelInput 4
  channel : Chan
  toCheck : List AnchorReading
  deriving DecidableEq, Repr

/-- The closing state (R57). `handed` is BUSY with a frame whose work is about to start: FRAME_WORK_START comes before
any other command (log entry 3). -/
inductive Closing where
  | free
  | handed (frame : ClosedFrame)
  | busy (work : FrameWork) (waiting : Option ClosedFrame)
  deriving DecidableEq, Repr

/-- The Reading Port and Frame Path (03). The recorded tag is that of the frame last accepted; it stands in the buffer
until the next accepted open word (R50, R51, R55), and there is none at power-on (R64). -/
structure FramePath where
  receiving : Receiving
  tag : Option Nat
  zones : Vector (Option ZoneReading) 16
  anchors : List AnchorReading
  closing : Closing
  lastAccepted : Option Nat
  deriving DecidableEq, Repr

/-! ### Grade Channels and Grade Port (04) -/

/-- A channel's configuration (R66). -/
structure ChannelConfig where
  enabled : Bool
  zoneSet : BitVec 16
  glideLength : Nat
  pace : Nat
  flapLimit : Nat
  flapWindow : Nat
  learn : Bool
  learnClass : ClassNo
  learnWeight : Nat
  deriving DecidableEq, Repr

/-- Whether a channel's delivered grade is moving (R67). -/
inductive GlideState where
  | steady | gliding
  deriving DecidableEq, Repr

/-- The flap lock (R67). -/
inductive LockState where
  | free | locked
  deriving DecidableEq, Repr

/-- The outcome of a channel's frame work (R67). -/
inductive ChannelOutcome where
  | matched | miss | dark
  deriving DecidableEq, Repr

/-- A channel record: its configuration (R66) and its working state (R67). -/
structure Channel where
  config : ChannelConfig
  winner : Option Slot
  target : Grade
  delivered : Grade
  glide : GlideState
  stepsRemaining : Nat
  nextStep : Nat
  lock : LockState
  lockEnd : Nat
  switchCount : Nat
  windowEnd : Option Nat
  pendingDerivation : Option Nat
  lastOutcome : Option ChannelOutcome
  heldOver : Bool
  deriving DecidableEq, Repr

/-- The power-on record of a channel (R66, R67), but for `enabled` and the zone set. -/
def Channel.powerOn (enabled : Bool) (zoneSet : BitVec 16) : Channel :=
  { config :=
      { enabled := enabled, zoneSet := zoneSet, glideLength := 48, pace := 1, flapLimit := 4, flapWindow := 120
        learn := false, learnClass := 0, learnWeight := 64 }
    winner := none, target := .unity, delivered := .unity, glide := .steady, stepsRemaining := 0, nextStep := 0
    lock := .free, lockEnd := 0, switchCount := 0, windowEnd := none, pendingDerivation := none
    lastOutcome := none, heldOver := false }

/-- A grade record (R81). -/
structure GradeRecord where
  number : Nat
  channel : Chan
  outcome : ChannelOutcome
  winner : Option Slot
  gliding : Bool
  locked : Bool
  learning : Bool
  heldOver : Bool
  grade : Grade
  deriving DecidableEq, Repr

/-- The Grade Port (R82, R84): its queue, oldest first, the words of the pull in progress that are still to be delivered,
and the words delivered since power-on (log entries 14 and 18). -/
structure GradePort where
  queue : List GradeRecord
  delivering : List Word
  out : List Word
  deriving DecidableEq, Repr

/-! ### Learning (05) -/

/-- A request's stage (R91). -/
inductive Stage where
  | waiting | searching | blending | ready
  deriving DecidableEq, Repr

/-- One item of a request's parents list (R89). -/
structure Parent where
  slot : Slot
  generation : Nat
  distance : Nat
  deriving DecidableEq, Repr

/-- A request record of the derivation queue (R89). -/
structure Derivation where
  number : Nat
  channel : Chan
  key : Key
  weight : Nat
  cls : ClassNo
  issueDepth : Nat
  issueFrame : Nat
  stage : Stage
  rerunUsed : Bool
  parents : Option (List Parent)
  result : Option Grade
  deriving DecidableEq, Repr

/-- One parent as the SEARCH hands it to the blender: its grade copy and its distance (R96, R99). -/
structure BlendInput where
  grade : Grade
  distance : Nat
  deriving DecidableEq, Repr

/-- A blend (R98): the request it serves, or none once that request has left the queue, and its inputs. -/
structure Blend where
  request : Option Nat
  inputs : List BlendInput
  deriving DecidableEq, Repr

/-- How a SEARCH or an INSTALL ended a request (R107). -/
inductive Ending where
  | installed (slot : Slot)
  | redundant
  | noParents
  | stale
  | full
  deriving DecidableEq, Repr

/-- The last ending record (R107). -/
structure EndingRecord where
  number : Nat
  channel : Chan
  issueFrame : Nat
  ending : Ending
  deriving DecidableEq, Repr

/-- The Derivation Unit (05). -/
structure DerivationUnit where
  queue : List Derivation
  nextNumber : Nat
  blends : List Blend
  waitingBlends : List Blend
  lastEnding : Option EndingRecord
  reserve : Nat
  evictionPermitted : Bool
  deriving DecidableEq, Repr

/-! ### Aging (06) -/

/-- A class descriptor (R112). -/
structure ClassDescriptor where
  prescale : Nat
  idleAt : Nat
  dormantAt : Nat
  retireAt : Nat
  deriving DecidableEq, Repr

/-- What a sweep keeps of one class from its start (R116). -/
structure ClassSnapshot where
  ticks : Nat
  idleAt : Nat
  dormantAt : Nat
  retireAt : Nat
  deriving DecidableEq, Repr

/-- A sweep in progress: its position and its snapshot (R116, R117). -/
structure Sweep where
  position : Block
  snapshot : Vector ClassSnapshot 4
  deriving DecidableEq, Repr

/-- The Aging Unit (06). -/
structure AgingUnit where
  classes : Vector ClassDescriptor 4
  pendingTicks : Vector Nat 4
  sweep : Option Sweep
  deriving DecidableEq, Repr

/-! ### The Table Arbiter (02) -/

/-- The four requesters (R43). -/
inductive Requester where
  | frame | service | derive | aging
  deriving DecidableEq, Repr

/-- A waiting operation of FRAME (R34, R126). -/
inductive FrameOp where
  | matching (channel : Chan) (key : Key) (mode : MatchMode)
  | anchor (reading : AnchorReading) (number tag : Nat)
  deriving DecidableEq, Repr

/-- A designator resolved as far as R152 allows when the request is taken. -/
inductive SlotRef where
  | at (slot : Slot)
  | nextFree
  | lastFree
  deriving DecidableEq, Repr

/-- The slot a request names, and whether it named it by a cursor designator (R153). -/
structure Target where
  ref : SlotRef
  viaCursor : Bool
  deriving DecidableEq, Repr

/-- What a checked PLACE carries to its grant (R154). -/
structure NewEntry where
  key : Key
  pin : Bool
  unique : Bool
  overwrite : Bool
  body : BodyCopy
  deriving DecidableEq, Repr

/-- What a checked AMEND carries to its grant (R156). -/
structure Change where
  expected : Option Nat
  key : Option Key
  grade : Option Grade
  supplied : Option Supplied
  cls : Option ClassNo
  deriving DecidableEq, Repr

/-- A waiting operation of SERVICE (R43). -/
inductive ServiceOp where
  | place (t : Target) (e : NewEntry)
  | amend (t : Target) (c : Change)
  | retire (t : Target)
  | setState (t : Target) (state : LightState)
  | pin (t : Target)
  | unpin (t : Target)
  | clearCounts (t : Target)
  | readEntry (t : Target)
  | seek (key : Key)
  | seekNext (key : Key) (start : Nat)
  | drop (depth : Nat)
  | keep (depth : Nat)
  | restart
  | clearTable
  deriving DecidableEq, Repr

/-- A waiting operation of DERIVE, fixed to its request (R95). -/
inductive DeriveOp where
  | search (request : Nat)
  | install (request : Nat)
  deriving DecidableEq, Repr

/-- The Table Arbiter (R43, R44): the requester most recently granted, and one waiting operation per requester. -/
structure Arbiter where
  rotation : Requester
  frame : Option FrameOp
  service : Option ServiceOp
  derive : Option DeriveOp
  aging : Option Block
  deriving DecidableEq, Repr

/-! ### The Notice Unit (10) -/

/-- The thirteen causes, in the order of the table of R170. -/
inductive Cause where
  | frameOrder | frameOverrun | readingStray | anchorOverflow | anchorBad | drift | entryHeld | flap
  | learnDeferred | learnAbandoned | learnEvict | gradeOverrun | linkError
  deriving DecidableEq, Repr

/-- A cause's pending flag and detail (R170). -/
structure Notice where
  pending : Bool
  detail : Nat
  deriving DecidableEq, Repr

/-- The Notice Unit (R170): the causes by position, and the enable mask. -/
structure NoticeUnit where
  causes : Vector Notice 13
  mask : BitVec 13
  deriving DecidableEq, Repr

/-! ### The Control Link (10) -/

/-- The reasons of a refusal (R169), in their order. -/
inductive Reason where
  | malformed | range | slotEmpty | slotOccupied | duplicate | stale | nested | scopeFull | noScope | noFree
  | wrongState | noMatch
  deriving DecidableEq, Repr

/-- The slot a SEEK found, with its state and generation at the grant (R162). -/
structure Found where
  slot : Slot
  state : SlotState
  generation : Nat
  deriving DecidableEq, Repr

/-- The closing state as READ STATUS reports it (R173, R180). -/
inductive ClosingReport where
  | free
  | busy (number : Nat)
  | busyPending (number waiting : Nat)
  deriving DecidableEq, Repr

/-- The fields of READ STATUS after the part code (R173). The receiving state is reported by its position in R178. -/
structure StatusReport where
  emptyCount : Nat
  liveCount : Nat
  heldCount : Nat
  anchorCount : Nat
  nextFree : Option Slot
  lastFree : Option Slot
  depth : Nat
  queueLength : Nat
  lastAccepted : Option Nat
  receiving : Receiving
  closing : ClosingReport
  sweeping : Bool
  deriving DecidableEq, Repr

/-- The fields of READ DERIVATIONS (R110). -/
structure DerivationReport where
  queue : List Derivation
  reserve : Nat
  evictionPermitted : Bool
  nextNumber : Nat
  blendsInProgress : Nat
  lastEnding : Option EndingRecord
  deriving DecidableEq, Repr

/-- The result fields of a DONE reply, as each request's rule names them. -/
inductive Results where
  | nothing
  | slotGeneration (slot : Slot) (generation : Nat)
  | generation (generation : Nat)
  | pinGeneration (pin : Bool) (generation : Nat)
  | entry (slot : Slot) (cell : Cell)
  | found (slot : Option Found) (count : Nat) (multiple : Bool)
  | channel (c : Channel)
  | derivations (r : DerivationReport)
  | classDescriptor (d : ClassDescriptor) (ticks : Nat)
  | depth (depth : Nat)
  | dropped (depth retired restored removed : Nat)
  | kept (depth restamped lowered folded requests : Nat)
  | status (r : StatusReport)
  | causes (u : NoticeUnit)
  | cleared (retired : Nat)
  deriving DecidableEq, Repr

/-- A reply (R169). -/
inductive Reply where
  | done (results : Results)
  | refused (reason : Reason)
  deriving DecidableEq, Repr

/-- The request in work (R165): one whose operation waits with SERVICE, or a SET CHANNEL that waits for its channel's
frame work (R86). -/
inductive InWork where
  | operation
  | setChannel (channel : Chan) (f : ChannelFields)
  deriving DecidableEq, Repr

/-- The state of the link (R165). -/
inductive LinkState where
  | idle
  | working (request : InWork)
  | replyReady (reply : Reply)
  deriving DecidableEq, Repr

/-- The Control Link: its state, and the bytes the part has shifted out in the last select period. -/
structure ControlLink where
  state : LinkState
  out : List Byte
  deriving DecidableEq, Repr

/-- The RESET line, and whether the part is ready for select periods and reading words (R64, R176). -/
structure Lines where
  resetAsserted : Bool
  ready : Bool
  deriving DecidableEq, Repr

/-! ### The whole part -/

/-- The whole part, and the queue of the commands that are waiting, first in, first out. Beside the queue stand, for the
messages in it in turn, the numbers of bytes that the host clocks after each is whole, where they are not 0 for all that
follow (R168; log entry 27). -/
structure State where
  lines : Lines
  table : Table
  arbiter : Arbiter
  matching : MatchUnit
  path : FramePath
  channels : Vector Channel 4
  port : GradePort
  derive : DerivationUnit
  aging : AgingUnit
  depth : Nat
  link : ControlLink
  notices : NoticeUnit
  pending : List Instr
  trailing : List Nat
  deriving DecidableEq, Repr

/-- The reasons a step stops with a fault. No rule of the spec stops the part, so there is none. -/
inductive Fault where
  deriving DecidableEq, Repr

/-- The reasons a step has no meaning. -/
inductive Refusal where
  /-- A row whose meaning is not written: raised by exec's arm alone, safe. No arm raises it. -/
  | notModelled (mnemonic : String)
  deriving DecidableEq, Repr

/-- The power-on value of every block (R24, R27, R29, R31, R44, R64, R66, R67, R84, R111, R112, R115, R124, R138, R165,
R170), with the RESET line released and the part ready for its first select period and reading word (log entry 6). -/
def State.reset : State :=
  { lines := { resetAsserted := false, ready := true }
    table := Vector.replicate 512 Cell.blank
    arbiter := { rotation := .aging, frame := none, service := none, derive := none, aging := none }
    matching :=
      { profiles := #v[Profile.powerOn, Profile.powerOn]
        frame := { selected := 0, staged := none }
        service :=
          { selected := 0, filter := { live := true, held := false, anchor := false }
            cursor := 0, cursorStep := .none, lastMatch := none, multiple := false, matchCount := 0
            lastSeekKey := none } }
    path :=
      { receiving := .idle, tag := none, zones := Vector.replicate 16 none, anchors := [], closing := .free
        lastAccepted := none }
    channels :=
      #v[Channel.powerOn true 0xFFFF, Channel.powerOn false 0, Channel.powerOn false 0, Channel.powerOn false 0]
    port := { queue := [], delivering := [], out := [] }
    derive :=
      { queue := [], nextNumber := 0, blends := [], waitingBlends := [], lastEnding := none
        reserve := 16, evictionPermitted := true }
    aging :=
      { classes :=
          #v[{ prescale := 30, idleAt := 20, dormantAt := 120, retireAt := 0 },
             { prescale := 60, idleAt := 10, dormantAt := 40, retireAt := 160 },
             { prescale := 300, idleAt := 4, dormantAt := 12, retireAt := 48 },
             { prescale := 15, idleAt := 8, dormantAt := 16, retireAt := 32 }]
        pendingTicks := #v[0, 0, 0, 0]
        sweep := none }
    depth := 0
    link := { state := .idle, out := [] }
    notices := { causes := Vector.replicate 13 { pending := false, detail := 0 }, mask := 0x1FFF }
    pending := []
    trailing := [] }

end Sys2Proof.Machine
end

