-- ==== Sys2Proof/Machine/Ops.lean ====
section
/-!
DEFINITION. The named operations over the table, the channels, the arbiter and the scope depth that the commands share:
reading and writing a slot, generations (R17), retirement (R20, R79), the free ends and counts (R22, R23), and the
arbiter's circle (R44).
-/
namespace Sys2Proof.Machine

/-- What a command answers. -/
abbrev Result := Host.Outcome State Fault Refusal

/-! ### Plain arithmetic (00_scope.md, 4.5) -/

/-- The absolute difference of two numbers, without wrap (R26). -/
def absDiff (a b : Nat) : Nat := (a - b) + (b - a)

/-- An increment that saturates at `top` (00_scope.md, 4.5). -/
def satAdd (top n k : Nat) : Nat := min (n + k) top

/-- A value clamped to a range (00_scope.md, 4.5). -/
def clampTo (lo hi x : Int) : Int := if x < lo then lo else if hi < x then hi else x

/-- Each element of a vector rewritten from its index and its value. -/
@[irreducible] def Vec.mapIdx {α β : Type} {n : Nat} (f : Fin n → α → β) (v : Vector α n) : Vector β n :=
  ⟨⟨List.zipWith f (List.finRange n) v.toList⟩, by simp⟩

/-! ### Slots -/

/-- The slots in priority order (R2). -/
@[irreducible] def slots : List Slot := List.finRange 512

/-- The channels in the order of their work (R60). -/
def chans : List Chan := List.finRange 4

/-- The record of a slot. -/
def State.cell (s : State) (i : Slot) : Cell := s.table[i]

/-- One slot written. -/
def State.setCell (s : State) (i : Slot) (c : Cell) : State := { s with table := s.table.set i c }

/-- Every slot rewritten in one pass: a WALK or a SWEEP STEP. -/
def State.mapCells (s : State) (f : Slot → Cell → Cell) : State := { s with table := Vec.mapIdx f s.table }

/-- The state of an entry (R4). -/
def Entry.state (e : Entry) : SlotState :=
  match e.body with
  | .illuminant .live _ => .live
  | .illuminant .held _ => .held
  | .anchor _ => .anchor

/-- The state of a slot (R4): EMPTY when it holds no entry. -/
def Cell.state (c : Cell) : SlotState :=
  match c.entry with
  | none => .empty
  | some e => e.state

/-- Whether a slot holds no entry. -/
def Cell.isEmpty (c : Cell) : Bool := c.entry.isNone

/-- The entry and the body of a LIVE slot, and nothing for any other. -/
def Cell.live (c : Cell) : Option (Entry × Illuminant) :=
  match c.entry with
  | some e =>
    match e.body with
    | .illuminant .live x => some (e, x)
    | _ => none
  | none => none

/-- Whether a slot is LIVE. -/
def Cell.isLive (c : Cell) : Bool := c.state == .live

/-- The entry and the body of an ANCHOR slot, and nothing for any other. -/
def Cell.anchor (c : Cell) : Option (Entry × AnchorBody) :=
  match c.entry with
  | some e =>
    match e.body with
    | .anchor a => some (e, a)
    | _ => none
  | none => none

/-- The next generation (R17): from 65535 it gives 1, not 0. -/
def nextGeneration (g : Nat) : Nat := if 65535 ≤ g then 1 else g + 1

/-- A slot returned to EMPTY (R20): the generation goes up by one and every other field is gone. -/
def Cell.retired (c : Cell) : Cell := { generation := nextGeneration c.generation, entry := none }

/-- A slot whose entry is written in state, key or supplied body: one increment of generation (R17). -/
def Cell.written (c : Cell) (e : Entry) : Cell := { generation := nextGeneration c.generation, entry := some e }

/-- A slot whose entry is changed without a change of state, key or supplied body (R17). -/
def Cell.touchedUp (c : Cell) (e : Entry) : Cell := { c with entry := some e }

/-- The free ends (R22): the lowest EMPTY slot. -/
def State.nextFree (s : State) : Option Slot := slots.find? fun i => (s.cell i).isEmpty

/-- The free ends (R22): the highest EMPTY slot. -/
def State.lastFree (s : State) : Option Slot := slots.reverse.find? fun i => (s.cell i).isEmpty

/-- The count of slots in a state (R23). -/
def State.countOf (s : State) (st : SlotState) : Nat := s.table.toList.countP fun c => c.state == st

/-! ### Channels -/

/-- The record of a channel. -/
def State.channel (s : State) (c : Chan) : Channel := s.channels[c]

/-- One channel record written. -/
def State.setChannel (s : State) (c : Chan) (ch : Channel) : State := { s with channels := s.channels.set c ch }

/-- Every channel record rewritten. -/
def State.mapChannels (s : State) (f : Channel → Channel) : State :=
  { s with channels := Vec.mapIdx (fun _ ch => f ch) s.channels }

/-- Whether a slot is some channel's winner. -/
def State.isWinner (s : State) (i : Slot) : Bool := chans.any fun c => (s.channel c).winner == some i

/-- A channel whose winner, if it is among the slots that have gone, is made absent; all else stands (R79). -/
def Channel.loseWinner (gone : Slot → Bool) (ch : Channel) : Channel :=
  match ch.winner with
  | some i => if gone i then { ch with winner := none } else ch
  | none => ch

/-- The winners of the slots that leave LIVE are made absent, in the operation that makes them leave (R79). -/
def State.clearWinners (s : State) (gone : Slot → Bool) : State := s.mapChannels (Channel.loseWinner gone)

/-- The retirement of one slot's entry (R20) with the winners it held (R21, R79). -/
def State.retire (s : State) (i : Slot) : State := (s.setCell i (s.cell i).retired).clearWinners fun j => j == i

/-! ### Profiles -/

/-- The FRAME profile (R27): the one the FRAME context selects at this moment. -/
def State.frameProfile (s : State) : Profile := s.matching.profiles[s.matching.frame.selected]

/-- The profile the SERVICE context selects. -/
def State.serviceProfile (s : State) : Profile := s.matching.profiles[s.matching.service.selected]

/-! ### The Table Arbiter (R43, R44) -/

/-- The requesters on the circle, from the first after a rotation position to that position itself (R44). -/
def Requester.circle : Requester → List Requester
  | .frame => [.service, .derive, .aging, .frame]
  | .service => [.derive, .aging, .frame, .service]
  | .derive => [.aging, .frame, .service, .derive]
  | .aging => [.frame, .service, .derive, .aging]

/-- Whether a requester has an operation waiting. -/
def Arbiter.waiting (a : Arbiter) : Requester → Bool
  | .frame => a.frame.isSome
  | .service => a.service.isSome
  | .derive => a.derive.isSome
  | .aging => a.aging.isSome

/-- The requester granted next (R44): the first after the rotation position that has an operation waiting. -/
def Arbiter.next (a : Arbiter) : Option Requester := a.rotation.circle.find? a.waiting

/-- The FRAME operation, if the arbiter grants FRAME next. -/
def State.frameGrant (s : State) : Option FrameOp := if s.arbiter.next = some .frame then s.arbiter.frame else none

/-- The SERVICE operation, if the arbiter grants SERVICE next. -/
def State.serviceGrant (s : State) : Option ServiceOp :=
  if s.arbiter.next = some .service then s.arbiter.service else none

/-- The DERIVE operation, if the arbiter grants DERIVE next. -/
def State.deriveGrant (s : State) : Option DeriveOp :=
  if s.arbiter.next = some .derive then s.arbiter.derive else none

/-- The AGING operation, if the arbiter grants AGING next. -/
def State.agingGrant (s : State) : Option Block := if s.arbiter.next = some .aging then s.arbiter.aging else none

/-- The grant of FRAME's operation: it waits no more, and the rotation position is FRAME (R44). -/
def State.grantFrame (s : State) : State := { s with arbiter := { s.arbiter with rotation := .frame, frame := none } }

/-- The grant of SERVICE's operation (R44). -/
def State.grantService (s : State) : State :=
  { s with arbiter := { s.arbiter with rotation := .service, service := none } }

/-- The grant of DERIVE's operation (R44). -/
def State.grantDerive (s : State) : State :=
  { s with arbiter := { s.arbiter with rotation := .derive, derive := none } }

/-- The grant of AGING's operation (R44). -/
def State.grantAging (s : State) : State := { s with arbiter := { s.arbiter with rotation := .aging, aging := none } }

/-- FRAME submits an operation (R43). -/
def State.submitFrame (s : State) (op : FrameOp) : State := { s with arbiter := { s.arbiter with frame := some op } }

/-- DERIVE submits an operation (R43). -/
def State.submitDerive (s : State) (op : DeriveOp) : State :=
  { s with arbiter := { s.arbiter with derive := some op } }

/-- AGING submits a SWEEP STEP (R43). -/
def State.submitAging (s : State) (b : Block) : State := { s with arbiter := { s.arbiter with aging := some b } }

end Sys2Proof.Machine
end

