-- ==== Sys2Proof/Machine/Flags.lean ====
section
/-!
DEFINITION. The part's flags: the thirteen causes of the Notice Unit, their raising and clearing, and the attention
line (R170 to R172).
-/
namespace Sys2Proof.Machine

/-- The position of a cause in the table of R170. -/
def Cause.index : Cause → Fin 13
  | .frameOrder => 0
  | .frameOverrun => 1
  | .readingStray => 2
  | .anchorOverflow => 3
  | .anchorBad => 4
  | .drift => 5
  | .entryHeld => 6
  | .flap => 7
  | .learnDeferred => 8
  | .learnAbandoned => 9
  | .learnEvict => 10
  | .gradeOverrun => 11
  | .linkError => 12

/-- The flag and detail of a cause. -/
def State.notice (s : State) (c : Cause) : Notice := s.notices.causes[c.index]

/-- A cause is raised (R170): its flag is set and its detail overwritten, enabled or not, pending or not. -/
def State.raise (s : State) (c : Cause) (detail : Nat) : State :=
  { s with notices := { s.notices with causes := s.notices.causes.set c.index { pending := true, detail := detail } } }

/-- Whether the attention line is asserted (R171): some cause both pending and enabled, and RESET not asserted. -/
def State.attention (s : State) : Bool :=
  !s.lines.resetAsserted &&
    (List.finRange 13).any fun i => s.notices.causes[i].pending && s.notices.mask.getLsbD i.val

/-- The causes of a set lose their flags; details and other flags stand (R172). -/
def NoticeUnit.clear (u : NoticeUnit) (set : Nat) : NoticeUnit :=
  { u with causes := Vec.mapIdx (fun i n => if set.testBit i.val then { n with pending := false } else n) u.causes }

/-- Every flag clear and every detail 0, the mask kept (R174). -/
def NoticeUnit.restarted (u : NoticeUnit) : NoticeUnit :=
  { u with causes := Vector.replicate 13 { pending := false, detail := 0 } }

end Sys2Proof.Machine
end

