-- ==== Sys2Proof/Machine/Operands.lean ====
section
/-!
DEFINITION. The operand forms of the host's requests: slot designators (R152), the ranges of the carried values, the
bodies of PLACE (R154) and AMEND (R156), and the fields of the settings requests.
-/
namespace Sys2Proof.Machine

/-! ### Designators -/

/-- A designator resolved as far as it is when the request is taken (R152); NEXT FREE and LAST FREE wait for the
grant. -/
def resolveDesignator (s : State) (d : Designator) : Except Reason Target :=
  match d with
  | .absolute n => if h : n < 512 then .ok { ref := .at ⟨n, h⟩, viaCursor := false } else .error .range
  | .cursor => .ok { ref := .at s.matching.service.cursor, viaCursor := true }
  | .cursorOffset o =>
    let sum : Int := (s.matching.service.cursor.val : Int) + o
    if o < -511 ∨ 511 < o ∨ sum < 0 then .error .range
    else if h : sum.toNat < 512 then .ok { ref := .at ⟨sum.toNat, h⟩, viaCursor := true } else .error .range
  | .lastMatch =>
    match s.matching.service.lastMatch with
    | some i => .ok { ref := .at i, viaCursor := false }
    | none => .error .noMatch
  | .nextFree => .ok { ref := .nextFree, viaCursor := false }
  | .lastFree => .ok { ref := .lastFree, viaCursor := false }

/-- The slot a resolved designator names at the grant, or none where a free end is absent (R41, R152). -/
def Target.slot (t : Target) (s : State) : Option Slot :=
  match t.ref with
  | .at i => some i
  | .nextFree => s.nextFree
  | .lastFree => s.lastFree

/-- The cursor after one access (R33): UP and DOWN wrap round the table. -/
def ServiceContext.stepCursor (x : ServiceContext) : ServiceContext :=
  match x.cursorStep with
  | .none => x
  | .up => { x with cursor := x.cursor + 1 }
  | .down => { x with cursor := x.cursor - 1 }

/-- The cursor's move after a request named by a cursor designator (R153). -/
def State.moveCursor (s : State) (viaCursor : Bool) : State :=
  if viaCursor then { s with matching := { s.matching with service := s.matching.service.stepCursor } } else s

/-! ### Ranges -/

/-- The key's ranges (00_scope.md, 4.8). -/
def keyOk (k : Key) : Bool := k.u ≤ 4095 && k.v ≤ 4095 && k.level ≤ 127 && k.tag ≤ 15

/-- A gain's range (00_scope.md, 4.8). -/
def gainsOk (g : Gains) : Bool := g.gR ≤ 16383 && g.gG ≤ 16383 && g.gB ≤ 16383

/-- A coefficient's range (00_scope.md, 4.8). -/
def coefficientOk (m : Int) : Bool := decide (-16384 ≤ m) && decide (m ≤ 16383)

/-- The matrix's ranges. -/
def matrixOk (m : Matrix) : Bool :=
  coefficientOk m.m11 && coefficientOk m.m12 && coefficientOk m.m13 && coefficientOk m.m21 && coefficientOk m.m22 &&
    coefficientOk m.m23 && coefficientOk m.m31 && coefficientOk m.m32 && coefficientOk m.m33

/-- The reference's ranges (R14). -/
def referenceOk (r : Reference) : Bool := r.r ≤ 65535 && r.g ≤ 65535 && r.b ≤ 65535

/-- The limits' ranges (R14). -/
def limitsOk (l : Limits) : Bool := l.tolerance ≤ 4095 && 1 ≤ l.streakLimit && l.streakLimit ≤ 15

/-- A class's range (R6). -/
def classOk (c : Nat) : Bool := c ≤ 3

/-- A value that may be carried or not, judged only when it is. -/
def carriedOk {α : Type} (ok : α → Bool) : Option α → Bool
  | none => true
  | some x => ok x

/-- A number within a range, both ends included. -/
def within (lo hi n : Nat) : Bool := lo ≤ n && n ≤ hi

/-- Every part of a body within its range. -/
def bodyOk (b : BodyParts) : Bool :=
  carriedOk gainsOk b.gains && carriedOk matrixOk b.matrix && carriedOk referenceOk b.reference &&
    carriedOk limitsOk b.limits

/-! ### Bodies -/

/-- The grade two whole parts carry (R177). -/
def gradeOf (g : Gains) (m : Matrix) : Grade :=
  { gR := g.gR, gG := g.gG, gB := g.gB
    m11 := m.m11, m12 := m.m12, m13 := m.m13, m21 := m.m21, m22 := m.m22, m23 := m.m23
    m31 := m.m31, m32 := m.m32, m33 := m.m33 }

/-- A class number once it is in range. -/
def classOf (c : Nat) : ClassNo := Fin.ofNat 4 c

/-- The body of a PLACE checked against its state (R154, step 3): positions 1, 2, 3 are LIVE, HELD, ANCHOR. -/
def placedBody (state : Nat) (cls : Option Nat) (b : BodyParts) : Except Reason BodyCopy :=
  match b.gains, b.matrix, cls, b.reference, b.limits with
  | some g, some m, some c, none, none =>
    if state = 1 then .ok (.illuminant .live (gradeOf g m) (classOf c))
    else if state = 2 then .ok (.illuminant .held (gradeOf g m) (classOf c))
    else .error .wrongState
  | none, none, none, some r, some l =>
    if state = 3 then .ok (.anchor { reference := r, limits := l }) else .error .wrongState
  | _, _, _, _, _ => .error .wrongState

/-- The values of a PLACE within their ranges (R154, step 2): the flags a set over three members, the state one of
LIVE, HELD, ANCHOR. -/
def placeValuesOk (q : PlaceRequest) : Bool :=
  decide (q.flags ≤ 7) && within 1 3 q.state && keyOk q.key && carriedOk classOk q.cls && bodyOk q.body

/-- A PLACE checked when it is taken (R154): designator, ranges, body, in this order. -/
def checkPlace (s : State) (q : PlaceRequest) : Except Reason (Target × NewEntry) :=
  match resolveDesignator s q.designator with
  | .error r => .error r
  | .ok t =>
    if placeValuesOk q then
      match placedBody q.state q.cls q.body with
      | .error r => .error r
      | .ok b =>
        .ok (t, { key := q.key, pin := q.flags.testBit 0, unique := q.flags.testBit 1, overwrite := q.flags.testBit 2
                  body := b })
    else .error .range

/-- The values of an AMEND within their ranges (R156). -/
def amendValuesOk (q : AmendRequest) : Bool :=
  carriedOk (within 0 65535) q.expected && carriedOk keyOk q.key && carriedOk classOk q.cls && bodyOk q.body

/-- Whether an AMEND carries a key, a body or part of one, or a class (R156). -/
def amendCarries (q : AmendRequest) : Bool :=
  q.key.isSome || q.cls.isSome || q.body.gains.isSome || q.body.matrix.isSome || q.body.reference.isSome ||
    q.body.limits.isSome

/-- The grade an AMEND carries: whole, absent, or an error when one of its parts is missing (R156). -/
def carriedGrade (b : BodyParts) : Except Reason (Option Grade) :=
  match b.gains, b.matrix with
  | some g, some m => .ok (some (gradeOf g m))
  | none, none => .ok none
  | _, _ => .error .wrongState

/-- The anchor body an AMEND carries: whole, absent, or an error when one of its parts is missing (R156). -/
def carriedSupplied (b : BodyParts) : Except Reason (Option Supplied) :=
  match b.reference, b.limits with
  | some r, some l => .ok (some { reference := r, limits := l })
  | none, none => .ok none
  | _, _ => .error .wrongState

/-- An AMEND checked when it is taken (R156): designator, ranges, something carried, whole bodies (log entry 15). -/
def checkAmend (s : State) (q : AmendRequest) : Except Reason (Target × Change) :=
  match resolveDesignator s q.designator with
  | .error r => .error r
  | .ok t =>
    if amendValuesOk q && amendCarries q then
      match carriedGrade q.body, carriedSupplied q.body with
      | .ok g, .ok a =>
        .ok (t, { expected := q.expected, key := q.key, grade := g, supplied := a, cls := q.cls.map classOf })
      | _, _ => .error .wrongState
    else .error .range

/-- The state a SET STATE carries: LIVE or HELD by their positions, and anything else RANGE (R157, R178). -/
def lightStateOf (n : Nat) : Except Reason LightState :=
  if n = 1 then .ok .live else if n = 2 then .ok .held else .error .range

/-- A SET STATE checked when it is taken (R157). -/
def checkSetState (s : State) (d : Designator) (n : Nat) : Except Reason (Target × LightState) :=
  match resolveDesignator s d with
  | .error r => .error r
  | .ok t =>
    match lightStateOf n with
    | .error r => .error r
    | .ok st => .ok (t, st)

/-! ### Settings -/

/-- A profile number (R28, R32, R63): 0 or 1, anything else RANGE. -/
def profileOf (n : Nat) : Option (Fin 2) := if h : n < 2 then some ⟨n, h⟩ else none

/-- A channel number (R85, R87): 0..3. -/
def channelOf (n : Nat) : Option Chan := if h : n < 4 then some ⟨n, h⟩ else none

/-- A class number (R113): 0..3. -/
def classNumberOf (n : Nat) : Option ClassNo := if h : n < 4 then some ⟨n, h⟩ else none

/-- The ranges of R27. -/
def profileFieldsOk (f : ProfileFields) : Bool :=
  carriedOk (within 0 255) f.du && carriedOk (within 0 255) f.dv && carriedOk (within 0 127) f.dl &&
    carriedOk (within 0 1) f.tagMode && carriedOk (within 0 255) f.confidenceFloor &&
    carriedOk (within 1 7) f.doubtLimit && carriedOk (within 0 127) f.learningReach &&
    carriedOk (within 0 8191) f.learningRadius

/-- The tag mode at a position of R178. -/
def tagModeOf (n : Nat) : TagMode := if n = 0 then .exact else .any

/-- The carried fields of a profile written together (R28). -/
def Profile.write (p : Profile) (f : ProfileFields) : Profile :=
  { du := f.du.getD p.du
    dv := f.dv.getD p.dv
    dl := f.dl.getD p.dl
    tagMode := (f.tagMode.map tagModeOf).getD p.tagMode
    confidenceFloor := f.confidenceFloor.getD p.confidenceFloor
    doubtLimit := f.doubtLimit.getD p.doubtLimit
    learningReach := f.learningReach.getD p.learningReach
    learningRadius := f.learningRadius.getD p.learningRadius }

/-- The filter a set carries (R32, R178): a non-empty subset of LIVE, HELD, ANCHOR. -/
def filterOf (n : Nat) : Option Filter :=
  if within 1 7 n then some { live := n.testBit 0, held := n.testBit 1, anchor := n.testBit 2 } else none

/-- The cursor step at a position of R178. -/
def cursorStepOf (n : Nat) : Option CursorStep :=
  match n with
  | 0 => some .none
  | 1 => some .up
  | 2 => some .down
  | _ => none

/-- The ranges of R66. -/
def channelFieldsOk (f : ChannelFields) : Bool :=
  carriedOk (within 0 1) f.enabled && carriedOk (within 0 65535) f.zoneSet && carriedOk (within 0 255) f.glideLength &&
    carriedOk (within 1 16) f.pace && carriedOk (within 0 15) f.flapLimit && carriedOk (within 1 1024) f.flapWindow &&
    carriedOk (within 0 1) f.learn && carriedOk (within 0 3) f.learnClass && carriedOk (within 0 4080) f.learnWeight

/-- The carried fields of a channel's configuration written together (R85). -/
def ChannelConfig.write (g : ChannelConfig) (f : ChannelFields) : ChannelConfig :=
  { enabled := (f.enabled.map fun n => n == 1).getD g.enabled
    zoneSet := (f.zoneSet.map fun n => BitVec.ofNat 16 n).getD g.zoneSet
    glideLength := f.glideLength.getD g.glideLength
    pace := f.pace.getD g.pace
    flapLimit := f.flapLimit.getD g.flapLimit
    flapWindow := f.flapWindow.getD g.flapWindow
    learn := (f.learn.map fun n => n == 1).getD g.learn
    learnClass := (f.learnClass.map classOf).getD g.learnClass
    learnWeight := f.learnWeight.getD g.learnWeight }

/-- The ranges of R112 for what a SET CLASS carries. -/
def classFieldsOk (f : ClassFields) : Bool :=
  carriedOk (within 1 4096) f.prescale && carriedOk (within 1 255) f.idleAt && carriedOk (within 1 255) f.dormantAt &&
    carriedOk (within 0 255) f.retireAt

/-- The carried fields of a descriptor written together (R113). -/
def ClassDescriptor.write (d : ClassDescriptor) (f : ClassFields) : ClassDescriptor :=
  { prescale := f.prescale.getD d.prescale
    idleAt := f.idleAt.getD d.idleAt
    dormantAt := f.dormantAt.getD d.dormantAt
    retireAt := f.retireAt.getD d.retireAt }

/-- The two conditions a held descriptor always satisfies (R112). -/
def ClassDescriptor.sound (d : ClassDescriptor) : Bool :=
  decide (d.idleAt ≤ d.dormantAt) && (d.retireAt == 0 || decide (d.dormantAt ≤ d.retireAt))

/-- A set of causes (R171, R172): one that names a cause outside the thirteen is RANGE. -/
def causeSetOk (n : Nat) : Bool := decide (n < 8192)

end Sys2Proof.Machine
end

