-- ==== Sys2Proof/Machine/Layouts.lean ====
section
/-!
DEFINITION. The bytes of the replies (R180) and the words of the grade records (R182).
-/
namespace Sys2Proof.Machine

/-! ### Reply fields (R180) -/

/-- A number in `k` bytes, least significant byte first. -/
def leBytes : Nat → Nat → List Byte
  | 0, _ => []
  | k + 1, n => BitVec.ofNat 8 n :: leBytes k (n / 256)

/-- A number, flag or enumeration of one byte. -/
def byte1 (n : Nat) : List Byte := leBytes 1 n

/-- A flag: 00h no, 01h yes. -/
def flagByte (b : Bool) : List Byte := byte1 b.toNat

/-- A slot, a count, a generation and the other fields of two bytes. -/
def bytes2 (n : Nat) : List Byte := leBytes 2 n

/-- A frame number or a cause detail, of four bytes. -/
def bytes4 (n : Nat) : List Byte := leBytes 4 n

/-- A deadline, of five bytes. -/
def bytes5 (n : Nat) : List Byte := leBytes 5 n

/-- A matrix coefficient: two bytes, two's complement. -/
def signedBytes2 (n : Int) : List Byte := bytes2 (n % 65536).toNat

/-- An optional field: a presence byte, and the field only when it is present. -/
def optionalBytes {α : Type} (f : α → List Byte) : Option α → List Byte
  | none => [0x00]
  | some x => 0x01 :: f x

/-- A list: the number of its items in one byte, then the items in order. -/
def listBytes {α : Type} (f : α → List Byte) (l : List α) : List Byte := byte1 l.length ++ l.flatMap f

/-- A slot field. -/
def slotBytes (i : Slot) : List Byte := bytes2 i.val

/-- A key: u 2, v 2, level 1, tag 1. -/
def keyBytes (k : Key) : List Byte := bytes2 k.u ++ bytes2 k.v ++ byte1 k.level ++ byte1 k.tag

/-- A grade: three gains, unsigned, and nine coefficients, two's complement, row by row. -/
def gradeBytes (g : Grade) : List Byte :=
  bytes2 g.gR.toNat ++ bytes2 g.gG.toNat ++ bytes2 g.gB.toNat ++ signedBytes2 g.m11 ++ signedBytes2 g.m12 ++
    signedBytes2 g.m13 ++ signedBytes2 g.m21 ++ signedBytes2 g.m22 ++ signedBytes2 g.m23 ++ signedBytes2 g.m31 ++
    signedBytes2 g.m32 ++ signedBytes2 g.m33

/-! ### Enumerations (R178) -/

/-- The position of a slot state. -/
def SlotState.code : SlotState → Nat
  | .empty => 0
  | .live => 1
  | .held => 2
  | .anchor => 3

/-- The position of an origin. -/
def Origin.code : Origin → Nat
  | .authored => 0
  | .learned _ _ => 1

/-- The position of a vigour. -/
def Vigour.code : Vigour → Nat
  | .active => 0
  | .idle => 1
  | .dormant => 2

/-- The position of an anchor's last outcome. -/
def AnchorOutcome.code : AnchorOutcome → Nat
  | .none => 0
  | .pass => 1
  | .fail => 2
  | .deferred => 3

/-- The position of a channel's last outcome. -/
def ChannelOutcome.code : ChannelOutcome → Nat
  | .matched => 0
  | .miss => 1
  | .dark => 2

/-- The position of a glide state. -/
def GlideState.code : GlideState → Nat
  | .steady => 0
  | .gliding => 1

/-- The position of a lock state. -/
def LockState.code : LockState → Nat
  | .free => 0
  | .locked => 1

/-- The position of a derivation stage. -/
def Stage.code : Stage → Nat
  | .waiting => 0
  | .searching => 1
  | .blending => 2
  | .ready => 3

/-- The position of a derivation ending. -/
def Ending.code : Ending → Nat
  | .installed _ => 0
  | .redundant => 1
  | .noParents => 2
  | .stale => 3
  | .full => 4

/-- The slot of the new entry, when the ending is INSTALLED (R107). -/
def Ending.slot? : Ending → Option Slot
  | .installed i => some i
  | _ => none

/-- The position of a receiving state. -/
def Receiving.code : Receiving → Nat
  | .idle => 0
  | .opened _ => 1
  | .discarding => 2

/-- The number of a reason, 1 to 12 in the order of R169. -/
def Reason.code : Reason → Nat
  | .malformed => 1
  | .range => 2
  | .slotEmpty => 3
  | .slotOccupied => 4
  | .duplicate => 5
  | .stale => 6
  | .nested => 7
  | .scopeFull => 8
  | .noScope => 9
  | .noFree => 10
  | .wrongState => 11
  | .noMatch => 12

/-! ### Result fields -/

/-- What only a LEARNED entry returns (R161): parents, a field R6 marks optional, and learned-at (log entry 12). -/
def originBytes : Origin → List Byte
  | .authored => []
  | .learned parents learnedAt =>
    optionalBytes (listBytes fun p : ParentRef => slotBytes p.slot ++ bytes2 p.generation) (some parents) ++
      bytes4 learnedAt

/-- The fields of an entry that depend on its kind (R161), in the order of R6. That the doubt, the idle ticks and the fail
streak are one byte each, where R180's counts have two, is log entry 11's reading. -/
def Body.bytes (origin : Origin) : Body → List Byte
  | .illuminant _ x =>
    gradeBytes x.grade ++ byte1 x.cls.val ++ byte1 x.vigour.code ++ byte1 x.idleTicks ++ flagByte x.touched ++
      bytes2 x.takeovers ++ byte1 x.doubt ++ originBytes origin
  | .anchor a =>
    bytes2 a.supplied.reference.r ++ bytes2 a.supplied.reference.g ++ bytes2 a.supplied.reference.b ++
      bytes2 a.supplied.limits.tolerance ++ byte1 a.supplied.limits.streakLimit ++ byte1 a.failStreak ++
      byte1 a.lastOutcome.code

/-- The fields of a non-EMPTY slot after its generation (R161): the shadow by its presence and depth alone. -/
def Entry.bytes (e : Entry) : List Byte :=
  byte1 e.origin.code ++ keyBytes e.key ++ byte1 e.stamp ++ flagByte e.pin ++
    optionalBytes (fun sh : Shadow => byte1 sh.depth) e.shadow ++ e.body.bytes e.origin

/-- A slot as READ ENTRY returns it (R161). -/
def cellBytes (i : Slot) (c : Cell) : List Byte :=
  slotBytes i ++ byte1 c.state.code ++ bytes2 c.generation ++
    match c.entry with
    | none => []
    | some e => e.bytes

/-- The fields of R66. -/
def configBytes (g : ChannelConfig) : List Byte :=
  flagByte g.enabled ++ bytes2 g.zoneSet.toNat ++ byte1 g.glideLength ++ byte1 g.pace ++ byte1 g.flapLimit ++
    bytes2 g.flapWindow ++ flagByte g.learn ++ byte1 g.learnClass.val ++ bytes2 g.learnWeight

/-- A channel as READ CHANNEL returns it (R87): the fields of R66 and then those of R67. The switch count is a count
(log entry 11). -/
def channelBytes (ch : Channel) : List Byte :=
  configBytes ch.config ++ optionalBytes slotBytes ch.winner ++ gradeBytes ch.target ++ gradeBytes ch.delivered ++
    byte1 ch.glide.code ++ byte1 ch.stepsRemaining ++ bytes5 ch.nextStep ++ byte1 ch.lock.code ++ bytes5 ch.lockEnd ++
    bytes2 ch.switchCount ++ optionalBytes bytes5 ch.windowEnd ++ optionalBytes bytes2 ch.pendingDerivation ++
    optionalBytes (fun o : ChannelOutcome => byte1 o.code) ch.lastOutcome ++ flagByte ch.heldOver

/-- A request of the derivation queue as READ DERIVATIONS returns it (R110). -/
def derivationBytes (q : Derivation) : List Byte :=
  bytes2 q.number ++ byte1 q.channel.val ++ keyBytes q.key ++ bytes2 q.weight ++ byte1 q.cls.val ++
    byte1 q.issueDepth ++ bytes4 q.issueFrame ++ byte1 q.stage.code ++ flagByte q.rerunUsed ++
    optionalBytes
      (listBytes fun p : Parent => slotBytes p.slot ++ bytes2 p.generation ++ bytes2 p.distance) q.parents ++
    optionalBytes gradeBytes q.result

/-- The last ending record (R107). -/
def endingBytes (e : EndingRecord) : List Byte :=
  bytes2 e.number ++ byte1 e.channel.val ++ bytes4 e.issueFrame ++ byte1 e.ending.code ++
    optionalBytes slotBytes e.ending.slot?

/-- The closing state: an enumeration followed by none, one or two frame numbers. -/
def ClosingReport.bytes : ClosingReport → List Byte
  | .free => byte1 0
  | .busy n => byte1 1 ++ bytes4 n
  | .busyPending n m => byte1 2 ++ bytes4 n ++ bytes4 m

/-- The fields of READ STATUS (R173), the part code first (log entry 10). -/
def statusBytes (r : StatusReport) : List Byte :=
  bytes2 Config.partCode ++ bytes2 r.emptyCount ++ bytes2 r.liveCount ++ bytes2 r.heldCount ++
    bytes2 r.anchorCount ++ optionalBytes slotBytes r.nextFree ++ optionalBytes slotBytes r.lastFree ++
    byte1 r.depth ++ byte1 r.queueLength ++ optionalBytes bytes4 r.lastAccepted ++ byte1 r.receiving.code ++
    r.closing.bytes ++ flagByte r.sweeping

/-- The pending flags as a set of causes (R178). -/
def NoticeUnit.pendingSet (u : NoticeUnit) : Nat :=
  (List.finRange 13).foldr (fun i n => if u.causes[i].pending then n + 2 ^ i.val else n) 0

/-- The fields of READ CAUSES: the pending set, thirteen details in cause order, the enable mask. -/
def causesBytes (u : NoticeUnit) : List Byte :=
  bytes2 u.pendingSet ++ u.causes.toList.flatMap (fun n => bytes4 n.detail) ++ bytes2 u.mask.toNat

/-- The result fields of a DONE reply. -/
def Results.bytes : Results → List Byte
  | .nothing => []
  | .slotGeneration i g => slotBytes i ++ bytes2 g
  | .generation g => bytes2 g
  | .pinGeneration p g => flagByte p ++ bytes2 g
  | .entry i c => cellBytes i c
  | .found f n m =>
    optionalBytes (fun x : Found => slotBytes x.slot ++ byte1 x.state.code ++ bytes2 x.generation) f ++ bytes2 n ++
      flagByte m
  | .channel ch => channelBytes ch
  | .derivations r =>
    listBytes derivationBytes r.queue ++ byte1 r.reserve ++ flagByte r.evictionPermitted ++ bytes2 r.nextNumber ++
      byte1 r.blendsInProgress ++ optionalBytes endingBytes r.lastEnding
  | .classDescriptor d t =>
    bytes2 d.prescale ++ byte1 d.idleAt ++ byte1 d.dormantAt ++ byte1 d.retireAt ++ bytes2 t
  | .depth d => byte1 d
  | .dropped d a b c => byte1 d ++ bytes2 a ++ bytes2 b ++ bytes2 c
  | .kept d a b c e => byte1 d ++ bytes2 a ++ bytes2 b ++ bytes2 c ++ bytes2 e
  | .status r => statusBytes r
  | .causes u => causesBytes u
  | .cleared n => bytes2 n

/-- A reply as it is shifted out: outcome, length in two bytes, and what the length covers (R180). -/
def Reply.bytes : Reply → List Byte
  | .done r => 0x01 :: (bytes2 r.bytes.length ++ r.bytes)
  | .refused x => 0x02 :: (bytes2 1 ++ byte1 x.code)

/-- The status byte (R180). -/
def statusByte : LinkStatus → Byte
  | .idle => 0x81
  | .working => 0x82
  | .replyReady => 0x83

/-! ### Grade record words (R182) -/

/-- The outcome of a record: 1 for MATCH, 2 for MISS, 3 for DARK. -/
def recordOutcome : ChannelOutcome → Nat
  | .matched => 1
  | .miss => 2
  | .dark => 3

/-- A 16-bit field of a value word: a gain, or a coefficient in two's complement. -/
def field16 (x : Int) : Nat := (x % 65536).toNat

/-- The header word of a record. -/
def GradeRecord.header (r : GradeRecord) : Word :=
  let winner : Nat := match r.winner with
    | none => 0
    | some i => 2 ^ 36 + i.val * 2 ^ 37
  BitVec.ofNat 64 (2 ^ 60 + r.heldOver.toNat * 2 ^ 49 + r.learning.toNat * 2 ^ 48 + r.locked.toNat * 2 ^ 47 +
    r.gliding.toNat * 2 ^ 46 + winner + recordOutcome r.outcome * 2 ^ 34 + r.channel.val * 2 ^ 32 + r.number)

/-- A value word: four 16-bit fields, the last argument in bits 15..0. -/
def valueWord (a b c d : Int) : Word :=
  BitVec.ofNat 64 (field16 a * 2 ^ 48 + field16 b * 2 ^ 32 + field16 c * 2 ^ 16 + field16 d)

/-- The four words of a record, in order. -/
def GradeRecord.words (r : GradeRecord) : List Word :=
  [r.header,
   valueWord r.grade.m11 r.grade.gB r.grade.gG r.grade.gR,
   valueWord r.grade.m22 r.grade.m21 r.grade.m13 r.grade.m12,
   valueWord r.grade.m33 r.grade.m32 r.grade.m31 r.grade.m23]

/-- The empty indication: one word whose bits are all 0. -/
def emptyIndication : List Word := [0]

end Sys2Proof.Machine
end

