-- ==== Sys2Proof/Machine/Matching.lean ====
section
/-!
DEFINITION. The window compare (R26), the FRAME match in its three modes (R30, R34 to R37) and the SERVICE match (R39).
-/
namespace Sys2Proof.Machine

/-- Two tags agree under a tag mode (R26). -/
def tagsAgree (m : TagMode) (a b : Nat) : Bool := a == b || m == .any

/-- The window compare: key `k` matches an entry's key `e` under a profile (R26). -/
def Profile.admits (p : Profile) (k e : Key) : Bool :=
  decide (absDiff k.u e.u ≤ p.du) && decide (absDiff k.v e.v ≤ p.dv) && decide (absDiff k.level e.level ≤ p.dl) &&
    tagsAgree p.tagMode k.tag e.tag

/-- Whether a slot is LIVE and its key matches under a profile: what a FRAME match counts (R29, R34). -/
def Cell.fits (p : Profile) (k : Key) (c : Cell) : Bool :=
  match c.live with
  | some (e, _) => p.admits k e.key
  | none => false

/-- Whether a slot stands in tier 0: LIVE and ACTIVE or IDLE (R30). -/
def Cell.tierZero (c : Cell) : Bool :=
  match c.live with
  | some (_, x) => x.vigour != .dormant
  | none => false

/-- The LIVE entries that match the key under the FRAME profile, lowest slot first. -/
def State.frameMatches (s : State) (k : Key) : List Slot := slots.filter fun i => (s.cell i).fits s.frameProfile k

/-- The result of an OPEN match (R35): the lowest slot of tier 0 that matches, else the lowest of tier 1. -/
def State.openResult (s : State) (k : Key) : Option Slot :=
  match (s.frameMatches k).find? fun i => (s.cell i).tierZero with
  | some i => some i
  | none => (s.frameMatches k).head?

/-- The incumbent of a HOLD or LOCKED match, if it is present, LIVE and matches (R36, R37). -/
def State.incumbentResult (s : State) (k : Key) (winner : Option Slot) : Option Slot :=
  match winner with
  | some i => if (s.cell i).fits s.frameProfile k then some i else none
  | none => none

/-- The result of a FRAME match by its mode, with the winner as it stands at the grant (R34 to R37). -/
def State.frameResult (s : State) (k : Key) (mode : MatchMode) (winner : Option Slot) : Option Slot :=
  match mode with
  | .openMode => s.openResult k
  | .hold =>
    match s.incumbentResult k winner with
    | some i => some i
    | none => s.openResult k
  | .locked => s.incumbentResult k winner

/-- The count a FRAME match returns, over both tiers and whatever the mode (R34). -/
def State.frameCount (s : State) (k : Key) : Nat := (s.frameMatches k).length

/-- What a MATCH returns (R34): its result slot or a miss, the match count, and the multiple flag. -/
structure MatchOutcome where
  result : Option Slot
  count : Nat
  multiple : Bool
  deriving DecidableEq, Repr

/-- The outcome of a MATCH from its result and its count: multiple is yes from 2 on (R34). -/
def matchOutcome (result : Option Slot) (count : Nat) : MatchOutcome :=
  { result := result, count := count, multiple := decide (2 ≤ count) }

/-- A FRAME match, made whole at its grant (R34 to R37): count and multiple flag over all matching LIVE entries, whatever
the mode. It changes no entry itself (R38 is the channel's use of the result). -/
def State.frameMatch (s : State) (k : Key) (mode : MatchMode) (winner : Option Slot) : MatchOutcome :=
  matchOutcome (s.frameResult k mode winner) (s.frameCount k)

/-- Whether the SERVICE filter admits a slot's state (R39). -/
def Filter.admits (f : Filter) : SlotState → Bool
  | .empty => false
  | .live => f.live
  | .held => f.held
  | .anchor => f.anchor

/-- Whether a slot is admitted by the filter and matches the key (R39). -/
def Cell.served (f : Filter) (p : Profile) (k : Key) (c : Cell) : Bool :=
  match c.entry with
  | some e => f.admits e.state && p.admits k e.key
  | none => false

/-- The admitted matching entries from a start slot upward, lowest first (R39). -/
def State.serviceMatches (s : State) (k : Key) (start : Nat) : List Slot :=
  slots.filter fun i =>
    decide (start ≤ i.val) && (s.cell i).served s.matching.service.filter s.serviceProfile k

/-- What a SERVICE match returns (R34, R39): the lowest admitted matching slot, and the count of them all. -/
def State.serviceOutcome (s : State) (k : Key) (start : Nat) : MatchOutcome :=
  matchOutcome (s.serviceMatches k start).head? (s.serviceMatches k start).length

/-- What a SERVICE match writes into its context (R39). -/
def ServiceContext.found (x : ServiceContext) (k : Key) (m : MatchOutcome) : ServiceContext :=
  { x with lastMatch := m.result, matchCount := m.count, multiple := m.multiple, lastSeekKey := some k }

/-- The SERVICE context with no search remembered (R32, R42). -/
def ServiceContext.forget (x : ServiceContext) : ServiceContext :=
  { x with lastMatch := none, lastSeekKey := none, multiple := false, matchCount := 0 }

/-- The SERVICE context written. -/
def State.setService (s : State) (x : ServiceContext) : State :=
  { s with matching := { s.matching with service := x } }

/-- A SERVICE match, made whole at its grant: it changes no entry (R38, R39). -/
def State.serviceMatch (s : State) (k : Key) (start : Nat) : State :=
  s.setService (s.matching.service.found k (s.serviceOutcome k start))

/-- The start slot of a SEEK NEXT (R39): one above the last match, or 0 when it is absent. -/
def ServiceContext.nextStart (x : ServiceContext) : Nat :=
  match x.lastMatch with
  | some i => i.val + 1
  | none => 0

end Sys2Proof.Machine
end

