-- ==== Sys2Proof/Machine/Channels.lean ====
section
/-!
DEFINITION. A channel's frame work on its own record (R69 to R77), the grade record (R81), the Grade Port's queue (R82,
R83), and the writing of a SET CHANNEL (R85).
-/
namespace Sys2Proof.Machine

/-! ### Grades, value by value -/

/-- A grade formed value by value from two others. -/
def Grade.zip (f : Int → Int → Int) (a b : Grade) : Grade :=
  { gR := f a.gR b.gR, gG := f a.gG b.gG, gB := f a.gB b.gB
    m11 := f a.m11 b.m11, m12 := f a.m12 b.m12, m13 := f a.m13 b.m13
    m21 := f a.m21 b.m21, m22 := f a.m22 b.m22, m23 := f a.m23 b.m23
    m31 := f a.m31 b.m31, m32 := f a.m32 b.m32, m33 := f a.m33 b.m33 }

/-- One glide step of one value (R76): the gap divided by the steps remaining, rounded toward zero, is added. -/
def glideValue (remaining : Nat) (delivered target : Int) : Int :=
  delivered + (target - delivered).tdiv remaining

/-- One glide step of a grade (R76). -/
def Grade.glideStep (remaining : Nat) (delivered target : Grade) : Grade :=
  Grade.zip (glideValue remaining) delivered target

/-! ### The window and the lock (R69) -/

/-- The window end and the switch count brought up to frame `n` (R69, steps 1 and 2): the window end moves on the grid
of the flap window until it is greater than `n`. -/
def Channel.rollWindow (n : Nat) (ch : Channel) : Channel :=
  match ch.windowEnd with
  | none => { ch with windowEnd := some (n + ch.config.flapWindow), switchCount := 0 }
  | some e =>
    if e ≤ n then
      { ch with windowEnd := some (e + ch.config.flapWindow * ((n - e) / ch.config.flapWindow + 1)), switchCount := 0 }
    else ch

/-- The lock that has reached its end is ended (R69, step 3). -/
def Channel.endLock (n : Nat) (ch : Channel) : Channel :=
  if ch.lock = .locked ∧ ch.lockEnd ≤ n then { ch with lock := .free } else ch

/-- The start of a channel's frame work for frame `n` (R69). -/
def Channel.beginFrame (n : Nat) (ch : Channel) : Channel := (ch.rollWindow n).endLock n

/-- The mode of the channel's MATCH (R70). -/
def Channel.mode (release : Bool) (ch : Channel) : MatchMode :=
  if ch.lock = .locked then .locked
  else if ch.winner.isSome ∧ release = false then .hold
  else .openMode

/-! ### After the match -/

/-- What the MATCH operation itself writes in the channel on a result (R71): a change from another winner counts a
switch. -/
def Channel.takeWinner (i : Slot) (ch : Channel) : Channel :=
  match ch.winner with
  | some j =>
    if j = i then ch else { ch with winner := some i, switchCount := satAdd 15 ch.switchCount 1 }
  | none => { ch with winner := some i }

/-- Whether a MATCH that results in slot `i` counts a switch (R71). -/
def Channel.switches (i : Slot) (ch : Channel) : Bool :=
  match ch.winner with
  | some j => j != i
  | none => false

/-- Whether the flap lock is taken now (R74, step 1). -/
def Channel.flaps (switched : Bool) (ch : Channel) : Bool :=
  switched && ch.config.flapLimit != 0 && ch.lock == .free && decide (ch.config.flapLimit ≤ ch.switchCount)

/-- The flap lock taken (R74, step 1): until the window end as it stands. -/
def Channel.takeLock (ch : Channel) : Channel :=
  { ch with lock := .locked, lockEnd := ch.windowEnd.getD ch.lockEnd }

/-- A new target (R74, step 2), with the restart of the glide when it differs from the old (R75). -/
def Channel.retarget (n : Nat) (g : Grade) (ch : Channel) : Channel :=
  if g = ch.target then ch
  else if ch.config.glideLength = 0 then
    { ch with target := g, delivered := g, stepsRemaining := 0, glide := .steady }
  else
    { ch with target := g, stepsRemaining := ch.config.glideLength, nextStep := n + ch.config.pace, glide := .gliding }

/-- The steps a gliding channel owes at frame `n` (R76): steps remaining, next deadline and delivered grade after
them. -/
def glideSteps (n pace : Nat) (target : Grade) : Nat → Nat → Grade → Nat × Nat × Grade
  | 0, deadline, d => (0, deadline, d)
  | r + 1, deadline, d =>
    if deadline ≤ n then glideSteps n pace target r (deadline + pace) (Grade.glideStep (r + 1) d target)
    else (r + 1, deadline, d)

/-- The glide's steps for frame `n` (R76): at the last of them the delivered grade is made equal to the target. -/
def Channel.advanceGlide (n : Nat) (ch : Channel) : Channel :=
  if ch.glide = .gliding then
    let r := glideSteps n ch.config.pace ch.target ch.stepsRemaining ch.nextStep ch.delivered
    if r.1 = 0 then
      { ch with stepsRemaining := 0, nextStep := r.2.1, delivered := ch.target, glide := .steady }
    else { ch with stepsRemaining := r.1, nextStep := r.2.1, delivered := r.2.2 }
  else ch

/-- The channel's own writes after a MATCH outcome, up to the glide (R71, R74, R75). -/
def Channel.settleMatch (n : Nat) (g : Grade) (switched : Bool) (ch : Channel) : Channel :=
  let ch := { ch with heldOver := false, lastOutcome := some .matched, pendingDerivation := none }
  (if ch.flaps switched then ch.takeLock else ch).retarget n g

/-- The channel's writes at a miss, before the miss is considered for learning (R72). -/
def Channel.settleMiss (ch : Channel) : Channel :=
  { ch with winner := none, heldOver := true, lastOutcome := some .miss }

/-- The channel's writes in a DARK frame (R73). -/
def Channel.settleDark (ch : Channel) : Channel := { ch with lastOutcome := some .dark }

/-! ### The grade record and the Grade Port -/

/-- The record of channel `c` for frame `n`, every field from the channel as it stands (R81). -/
def Channel.record (n : Nat) (c : Chan) (outcome : ChannelOutcome) (ch : Channel) : GradeRecord :=
  { number := n, channel := c, outcome := outcome, winner := ch.winner
    gliding := ch.glide == .gliding, locked := ch.lock == .locked, learning := ch.pendingDerivation.isSome
    heldOver := ch.heldOver, grade := ch.delivered }

/-- The record a full queue gives up for channel `c` (R83): the oldest of channel `c`, else the oldest. -/
def supersede (c : Chan) (q : List GradeRecord) : List GradeRecord :=
  if q.any fun r => r.channel == c then q.eraseP fun r => r.channel == c else q.tail

/-- A record handed over to the Grade Port (R82, R83). -/
def State.emit (s : State) (r : GradeRecord) : State :=
  if s.port.queue.length < Config.portDepth then
    { s with port := { s.port with queue := s.port.queue ++ [r] } }
  else
    State.raise { s with port := { s.port with queue := supersede r.channel s.port.queue ++ [r] } } .gradeOverrun
      r.channel.val

/-- The end of a channel's own work for frame `n`: its glide steps, then its record (R76, R81). -/
def State.deliver (s : State) (n : Nat) (c : Chan) (outcome : ChannelOutcome) : State :=
  let ch := (s.channel c).advanceGlide n
  (s.setChannel c ch).emit (ch.record n c outcome)

/-! ### SET CHANNEL -/

/-- What a disable does to the working state (R85). -/
def Channel.disabled (ch : Channel) : Channel :=
  { ch with winner := none, pendingDerivation := none, lock := .free, switchCount := 0, windowEnd := none }

/-- A SET CHANNEL performed on a channel record (R85). -/
def Channel.write (f : ChannelFields) (ch : Channel) : Channel :=
  let ch' := { ch with config := ch.config.write f }
  if ch.config.enabled && !ch'.config.enabled then ch'.disabled else ch'

/-- What RESTART leaves of a channel (R88). -/
def Channel.restarted (ch : Channel) : Channel :=
  { ch with
    target := ch.delivered, glide := .steady, stepsRemaining := 0, nextStep := 0, winner := none, lock := .free
    lockEnd := 0, switchCount := 0, windowEnd := none, pendingDerivation := none, lastOutcome := none
    heldOver := false }

end Sys2Proof.Machine
end

