-- ==== Sys2Proof/Machine/Learning.lean ====
section
/-!
DEFINITION. The Derivation Unit (05): issue (R90, R92 to R94), the choice of its next operation (R95), the SEARCH (R96,
R97), the blender (R98, R99), the INSTALL (R100 to R105) and leaving the queue (R106 to R108, R111).
-/
namespace Sys2Proof.Machine

/-- The derivation unit rewritten. -/
def State.setDerive (s : State) (d : DerivationUnit) : State := { s with derive := d }

/-- The queue rewritten. -/
def State.setQueue (s : State) (q : List Derivation) : State := s.setDerive { s.derive with queue := q }

/-- The request a number names (R90). -/
def State.request (s : State) (n : Nat) : Option Derivation := s.derive.queue.find? fun q => q.number == n

/-- One request of the queue rewritten, the others as they stand. -/
def updateRequest (n : Nat) (f : Derivation → Derivation) (l : List Derivation) : List Derivation :=
  l.map fun q => if q.number = n then f q else q

/-- One request of the queue rewritten. -/
def State.updateRequest (s : State) (n : Nat) (f : Derivation → Derivation) : State :=
  s.setQueue (Machine.updateRequest n f s.derive.queue)

/-! ### The unit's next operation (R95) -/

/-- The Derivation Unit's choice, when it has no operation waiting (R95). -/
def State.chooseDerive (s : State) : State :=
  match s.arbiter.derive with
  | some _ => s
  | none =>
    match s.derive.queue with
    | [] => s
    | q :: _ =>
      if q.stage = .ready then s.submitDerive (.install q.number)
      else
        match s.derive.queue.find? fun w => w.stage == .waiting with
        | some w =>
          (s.updateRequest w.number fun r => { r with stage := .searching }).submitDerive (.search w.number)
        | none => s

/-! ### Leaving the queue (R106) -/

/-- The request an operation of DERIVE is fixed to. -/
def DeriveOp.request : DeriveOp → Nat
  | .search n => n
  | .install n => n

/-- A channel whose pending derivation names a request that has gone loses the reference (R106). -/
def Channel.loseDerivation (gone : List Nat) (ch : Channel) : Channel :=
  match ch.pendingDerivation with
  | some n => if gone.contains n then { ch with pendingDerivation := none } else ch
  | none => ch

/-- A blend in progress whose request has gone serves none: it completes into nothing (R98). -/
def Blend.orphan (gone : List Nat) (b : Blend) : Blend :=
  match b.request with
  | some n => if gone.contains n then { b with request := none } else b
  | none => b

/-- Whether a blend waiting to start serves a request that has gone: it is not started (R98). -/
def Blend.serves (gone : List Nat) (b : Blend) : Bool :=
  match b.request with
  | some n => gone.contains n
  | none => false

/-- The requests of a queue that go, by number. -/
def goneNumbers (p : Derivation → Bool) (l : List Derivation) : List Nat :=
  (l.filter p).map fun q => q.number

/-- Requests leave the queue (R106): channel references to them are cleared, their blends complete into nothing, and a
waiting operation for one of them is withdrawn. The others keep their order. -/
def State.leaveQueue (s : State) (p : Derivation → Bool) : State :=
  let gone := goneNumbers p s.derive.queue
  { s with
    channels := Vec.mapIdx (fun _ ch => Channel.loseDerivation gone ch) s.channels
    derive :=
      { s.derive with
        queue := s.derive.queue.filter fun q => !p q
        blends := s.derive.blends.map (Blend.orphan gone)
        waitingBlends := s.derive.waitingBlends.filter fun b => !b.serves gone }
    arbiter :=
      { s.arbiter with
        derive := match s.arbiter.derive with
          | some op => if gone.contains op.request then none else some op
          | none => none } }

/-- A request leaves the queue by an ending of a SEARCH or an INSTALL, which becomes the last ending (R106, R107). -/
def State.endRequest (s : State) (q : Derivation) (e : Ending) : State :=
  let s := s.leaveQueue fun r => r.number == q.number
  s.setDerive
    { s.derive with
      lastEnding := some { number := q.number, channel := q.channel, issueFrame := q.issueFrame, ending := e } }

/-! ### Issue (R90, R92 to R94) -/

/-- The number after a request number: 255 gives 0 (R90). -/
def numberAfter (n : Nat) : Nat := (n + 1) % 256

/-- The first number from `n` on that no queued request holds, found within `tries` (R90). -/
def pickNumber (held : List Nat) : Nat → Nat → Nat
  | 0, n => n
  | tries + 1, n => if held.contains n then pickNumber held tries (numberAfter n) else n

/-- The request number a new request takes (R90). -/
def DerivationUnit.newNumber (d : DerivationUnit) : Nat :=
  pickNumber (d.queue.map fun q => q.number) 5 d.nextNumber

/-- Whether a channel's miss is considered for learning (R92). -/
def Channel.considers (w : Nat) (ch : Channel) : Bool :=
  ch.config.learn && decide (ch.config.learnWeight ≤ w) && ch.pendingDerivation.isNone

/-- Whether a queued request coalesces a miss (R93): equal tags whatever the tag mode, and the window compare. -/
def Derivation.coalesces (p : Profile) (k : Key) (q : Derivation) : Bool := q.key.tag == k.tag && p.admits k q.key

/-- The channel's pending derivation set. -/
def State.setPendingDerivation (s : State) (c : Chan) (n : Nat) : State :=
  s.setChannel c { s.channel c with pendingDerivation := some n }

/-- A new request as it is issued (R94). -/
def State.newRequest (s : State) (c : Chan) (r : ChannelReading) (n : Nat) : Derivation :=
  { number := s.derive.newNumber, channel := c, key := r.key, weight := r.weight
    cls := (s.channel c).config.learnClass, issueDepth := s.depth, issueFrame := n, stage := .waiting
    rerunUsed := false, parents := none, result := none }

/-- A new request appended at the newest end of the queue (R94), with the unit's choice after it (R95). -/
def State.issue (s : State) (c : Chan) (r : ChannelReading) (n : Nat) : State :=
  let q := s.newRequest c r n
  ((s.setDerive { s.derive with queue := s.derive.queue ++ [q], nextNumber := numberAfter q.number }).setPendingDerivation
    c q.number).chooseDerive

/-- A channel's miss considered for learning (R92 to R94). -/
def State.considerMiss (s : State) (c : Chan) (r : ChannelReading) (n : Nat) : State :=
  if (s.channel c).considers r.weight then
    match s.derive.queue.find? (Derivation.coalesces s.frameProfile r.key) with
    | some q => s.setPendingDerivation c q.number
    | none =>
      if s.derive.queue.any fun q => q.channel == c then s.raise .learnDeferred c.val else s.issue c r n
  else s

/-! ### SEARCH (R96, R97) -/

/-- The distance of two keys in a SEARCH (R96). -/
def searchDistance (a b : Key) : Nat := absDiff a.u b.u + absDiff a.v b.v

/-- Whether a slot is a candidate parent (R96). -/
def Cell.isCandidate (p : Profile) (k : Key) (c : Cell) : Bool :=
  match c.live with
  | some (e, _) =>
    tagsAgree p.tagMode k.tag e.key.tag && decide (absDiff k.level e.key.level ≤ p.learningReach) &&
      decide (searchDistance k e.key ≤ p.learningRadius)
  | none => false

/-- The distance of a slot's entry from a key. -/
def Cell.distanceFrom (k : Key) (c : Cell) : Nat :=
  match c.entry with
  | some e => searchDistance k e.key
  | none => 0

/-- A candidate put in its place: before every other that is not nearer. -/
def insertNear (d : Slot → Nat) (i : Slot) : List Slot → List Slot
  | [] => [i]
  | j :: l => if d i ≤ d j then i :: j :: l else j :: insertNear d i l

/-- Slots in order of distance, ties by lower slot, when given lowest slot first (R96). -/
def byDistance (d : Slot → Nat) (l : List Slot) : List Slot := l.foldr (insertNear d) []

/-- The slots a SEARCH takes as parents of a key: nearest first, at most three (R96). -/
def State.nearest (s : State) (k : Key) : List Slot :=
  (byDistance (fun i => (s.cell i).distanceFrom k)
    (slots.filter fun i => (s.cell i).isCandidate s.frameProfile k)).take Config.maxParents

/-- The grade of a slot's illuminant entry. -/
def Cell.grade? (c : Cell) : Option Grade :=
  match c.entry with
  | some e =>
    match e.body with
    | .illuminant _ x => some x.grade
    | .anchor _ => none
  | none => none

/-- The parents list a SEARCH writes (R96). -/
def State.parentsOf (s : State) (k : Key) (l : List Slot) : List Parent :=
  l.map fun i =>
    ({ slot := i, generation := (s.cell i).generation, distance := (s.cell i).distanceFrom k } : Parent)

/-- What a SEARCH hands to the blender (R96). -/
def State.blendInputs (s : State) (k : Key) (l : List Slot) : List BlendInput :=
  l.map fun i => ({ grade := (s.cell i).grade?.getD .unity, distance := (s.cell i).distanceFrom k } : BlendInput)

/-- A SEARCH that found parents (R96): the request holds them and becomes BLENDING, and the blender is handed the
copies. -/
def State.adoptParents (s : State) (q : Derivation) (l : List Slot) : State :=
  let parents := s.parentsOf q.key l
  let blend : Blend := { request := some q.number, inputs := s.blendInputs q.key l }
  let s := s.updateRequest q.number fun r => { r with stage := .blending, parents := some parents }
  s.setDerive { s.derive with waitingBlends := s.derive.waitingBlends ++ [blend] }

/-- A SEARCH that found no candidate (R97). -/
def State.abandonSearch (s : State) (q : Derivation) : State :=
  (s.endRequest q .noParents).raise .learnAbandoned q.channel.val

/-- A SEARCH performed for a request (R96, R97), after its grant, with the unit's choice after it (R95). -/
def State.searchFor (s : State) (q : Derivation) : State :=
  (if (s.nearest q.key).isEmpty then s.abandonSearch q else s.adoptParents q (s.nearest q.key)).chooseDerive

/-! ### The blender (R98, R99) -/

/-- The oldest blends waiting to start, started while the blender has room (R98). -/
def fillBlender : List Blend → List Blend → List Blend × List Blend
  | running, [] => (running, [])
  | running, b :: l => if running.length < Config.blendPlaces then fillBlender (running ++ [b]) l else (running, b :: l)

/-- The oldest blend waiting to start, started if the blender has room (R98). -/
def DerivationUnit.startBlend (d : DerivationUnit) : DerivationUnit :=
  match d.waitingBlends with
  | [] => d
  | b :: l =>
    if d.blends.length < Config.blendPlaces then { d with blends := d.blends ++ [b], waitingBlends := l } else d

/-- The weight of a parent in a blend (R99). -/
def blendWeight (i : BlendInput) : Nat := 65536 / (i.distance + 16)

/-- The sum of the weights of a blend (R99). -/
def totalWeight (l : List BlendInput) : Nat := (l.map blendWeight).sum

/-- The sum of weight times value over the parents (R99). -/
def weightedSum (v : Grade → Int) (l : List BlendInput) : Int :=
  (l.map fun i => (blendWeight i : Int) * v i.grade).sum

/-- One value of a blend before its clamp: the weighted sum divided by the sum of the weights, rounded toward zero. -/
def blendValue (v : Grade → Int) (l : List BlendInput) : Int := (weightedSum v l).tdiv (totalWeight l)

/-- A gain of a blend, clamped to its range (R99). -/
def blendGain (v : Grade → Int) (l : List BlendInput) : Int := clampTo 0 16383 (blendValue v l)

/-- A coefficient of a blend, clamped to its range (R99). -/
def blendCoefficient (v : Grade → Int) (l : List BlendInput) : Int := clampTo (-16384) 16383 (blendValue v l)

/-- The result grade of a blend (R99). -/
def blendGrade (l : List BlendInput) : Grade :=
  { gR := blendGain Grade.gR l, gG := blendGain Grade.gG l, gB := blendGain Grade.gB l
    m11 := blendCoefficient Grade.m11 l, m12 := blendCoefficient Grade.m12 l, m13 := blendCoefficient Grade.m13 l
    m21 := blendCoefficient Grade.m21 l, m22 := blendCoefficient Grade.m22 l, m23 := blendCoefficient Grade.m23 l
    m31 := blendCoefficient Grade.m31 l, m32 := blendCoefficient Grade.m32 l, m33 := blendCoefficient Grade.m33 l }

/-- The completion of the blend that started first (R98): its request becomes READY with the result, or it completes
into nothing. The unit's choice comes after it (R95). -/
def State.completeBlend (s : State) : State :=
  match s.derive.blends with
  | [] => s
  | b :: l =>
    let s := s.setDerive { s.derive with blends := l }
    match b.request with
    | none => s
    | some n =>
      (s.updateRequest n fun r => { r with stage := .ready, result := some (blendGrade b.inputs) }).chooseDerive

/-! ### INSTALL (R100 to R105) -/

/-- Whether a parent is stale (R100): its slot is not LIVE, or has another generation. -/
def State.isStale (s : State) (p : Parent) : Bool :=
  !(s.cell p.slot).isLive || (s.cell p.slot).generation != p.generation

/-- The parents a request holds. -/
def Derivation.parentList (q : Derivation) : List Parent := q.parents.getD []

/-- Whether some parent of a request is stale (R100). -/
def State.anyStale (s : State) (q : Derivation) : Bool := q.parentList.any s.isStale

/-- Whether a LIVE entry already covers a key under the FRAME profile (R101). -/
def State.isCovered (s : State) (k : Key) : Bool := slots.any fun i => (s.cell i).fits s.frameProfile k

/-- Whether a slot is named in the parents list of a queued request (R103). -/
def State.isQueuedParent (s : State) (i : Slot) : Bool :=
  s.derive.queue.any fun q => q.parentList.any fun p => p.slot == i

/-- Whether a slot's entry may be evicted, as far as its own record says (R103). -/
def Cell.evictable (c : Cell) : Bool :=
  match c.live with
  | some (e, x) =>
    match e.origin with
    | .learned _ _ => !e.pin && x.vigour != .active
    | .authored => false
  | none => false

/-- Whether a slot is an eviction candidate (R103). -/
def State.isEvictionCandidate (s : State) (i : Slot) : Bool :=
  (s.cell i).evictable && !s.isWinner i && !s.isQueuedParent i

/-- Whether a slot holds a DORMANT LIVE entry. -/
def Cell.isDormant (c : Cell) : Bool :=
  match c.live with
  | some (_, x) => x.vigour == .dormant
  | none => false

/-- The slot an INSTALL evicts (R104): the highest DORMANT candidate, else the highest candidate. -/
def State.evictionChoice (s : State) : Option Slot :=
  let l := slots.reverse.filter s.isEvictionCandidate
  match l.find? fun i => (s.cell i).isDormant with
  | some i => some i
  | none => l.head?

/-- The entry an INSTALL creates (R19, R105). -/
def Derivation.entry (q : Derivation) (g : Grade) : Entry :=
  { origin := .learned (q.parentList.map fun p => ({ slot := p.slot, generation := p.generation } : ParentRef)) q.issueFrame
    key := q.key, stamp := q.issueDepth, pin := false, shadow := none
    body := .illuminant .live
      { grade := g, cls := q.cls, vigour := .active, idleTicks := 0, touched := false, takeovers := 0, doubt := 0 } }

/-- The learned entry created at last free (R105), and the request's end. -/
def State.placeLearned (s : State) (q : Derivation) (g : Grade) : State :=
  match s.lastFree with
  | some i => (s.setCell i ((s.cell i).written (q.entry g))).endRequest q (.installed i)
  | none => s

/-- The room an INSTALL finds (R102) and the placement after it. -/
def State.installRoom (s : State) (q : Derivation) (g : Grade) : State :=
  if s.derive.reserve < s.countOf .empty then s.placeLearned q g
  else
    match (if s.derive.evictionPermitted then s.evictionChoice else none) with
    | some i => ((s.retire i).raise .learnEvict i.val).placeLearned q g
    | none => (s.endRequest q .full).raise .learnAbandoned q.channel.val

/-- A stale finding (R100): one rerun, then the end. -/
def State.installStale (s : State) (q : Derivation) : State :=
  if q.rerunUsed then (s.endRequest q .stale).raise .learnAbandoned q.channel.val
  else s.updateRequest q.number fun r => { r with stage := .waiting, rerunUsed := true, result := none }

/-- An INSTALL performed for a READY request with its result (R100 to R105), after its grant: stale, redundancy, room
and placement, in this order, with the unit's choice after it (R95). -/
def State.installFor (s : State) (q : Derivation) (g : Grade) : State :=
  (if s.anyStale q then s.installStale q
   else if s.isCovered q.key then s.endRequest q .redundant
   else s.installRoom q g).chooseDerive

/-! ### Scopes and the queue (R108), RESTART and CLEAR TABLE (R111) -/

/-- The requests issued at depth `d` have their issue depth lowered (R108, KEEP). -/
def State.lowerRequests (s : State) (d : Nat) : State :=
  s.setQueue (s.derive.queue.map fun q => if q.issueDepth = d then { q with issueDepth := d - 1 } else q)

/-- The queue emptied within a WALK, with DERIVE's waiting operation withdrawn (R46, R106, R111). The channels' pending
derivations go with the requests they name: R106 and R111 say so, and 95_what_each_step_holds.md places it within the
CLEAR TABLE WALK, against R88's last words on CLEAR TABLE (log entry 25). -/
def State.emptyQueue (s : State) : State :=
  let s := s.leaveQueue fun _ => true
  { s with arbiter := { s.arbiter with derive := none } }

end Sys2Proof.Machine
end

