-- ==== Sys2Proof/Machine/Aging.lean ====
section
/-!
DEFINITION. The Aging Unit (06): ticks (R114), the start of a sweep (R116) and what a step does to a slot (R118 to
R121).
-/
namespace Sys2Proof.Machine

/-- The aging unit rewritten. -/
def State.setAging (s : State) (a : AgingUnit) : State := { s with aging := a }

/-- The ticks of a prescale between two accepted frame numbers (R114). -/
def ticksBetween (prescale prev n : Nat) : Nat := n / prescale - prev / prescale

/-- The ticks of an accepted open word added to every class, saturating at 255 (R114). -/
def AgingUnit.addTicks (a : AgingUnit) (prev n : Nat) : AgingUnit :=
  { a with
    pendingTicks :=
      Vec.mapIdx (fun k t => satAdd 255 t (ticksBetween (a.classes[k] : ClassDescriptor).prescale prev n))
        a.pendingTicks }

/-- Whether a sweep is to start (R116): none in progress, and some pending count above 0. -/
def AgingUnit.sweepDue (a : AgingUnit) : Bool :=
  a.sweep.isNone && a.pendingTicks.toList.any fun t => t != 0

/-- The snapshot a sweep takes at its start (R116). -/
def AgingUnit.takeSnapshot (a : AgingUnit) : Vector ClassSnapshot 4 :=
  Vec.mapIdx
    (fun k (d : ClassDescriptor) =>
      { ticks := a.pendingTicks[k], idleAt := d.idleAt, dormantAt := d.dormantAt, retireAt := d.retireAt })
    a.classes

/-- A sweep starts, if it is to (R116): the snapshot is taken, the counts return to 0, and the first step is
submitted. -/
def State.startSweep (s : State) : State :=
  if s.aging.sweepDue then
    (s.setAging
      { s.aging with
        pendingTicks := Vector.replicate 4 0
        sweep := some { position := 0, snapshot := s.aging.takeSnapshot } }).submitAging 0
  else s

/-- The vigour set from idle ticks against a class's snapshot thresholds (R119). -/
def ClassSnapshot.vigour (k : ClassSnapshot) (idle : Nat) : Vigour :=
  if k.dormantAt ≤ idle then .dormant else if k.idleAt ≤ idle then .idle else .active

/-- Steps 1 to 3 of a visit (R118): touched or idle ticks, then vigour. -/
def Illuminant.aged (k : ClassSnapshot) (x : Illuminant) : Illuminant :=
  if x.touched then { x with idleTicks := 0, touched := false, vigour := k.vigour 0 }
  else
    let idle := satAdd 255 x.idleTicks k.ticks
    { x with idleTicks := idle, vigour := k.vigour idle }

/-- Whether a visited entry is retired (R120). -/
def agedOut (k : ClassSnapshot) (pin winner : Bool) (x : Illuminant) : Bool :=
  k.retireAt != 0 && decide (k.retireAt ≤ x.idleTicks) && !pin && !winner

/-- A slot as a step leaves it (R118, R120, R121): a LIVE entry of a class with snapshot ticks is aged, and retired if
R120 requires; any other slot is passed over. -/
def Cell.aged (snap : Vector ClassSnapshot 4) (winner : Bool) (c : Cell) : Cell :=
  match c.live with
  | some (e, x) =>
    let k := snap[x.cls]
    if k.ticks = 0 then c
    else
      let x' := x.aged k
      if agedOut k e.pin winner x' then c.retired else c.touchedUp { e with body := .illuminant .live x' }
  | none => c

/-- Whether a slot belongs to a block (R117). -/
def inBlock (b : Block) (i : Slot) : Bool := i.val / 64 == b.val

/-- The position after a step's completion: the next block, or the sweep's end (R117). -/
def State.afterStep (s : State) (w : Sweep) (b : Block) : State :=
  if h : b.val + 1 < 8 then
    (s.setAging { s.aging with sweep := some { w with position := ⟨b.val + 1, h⟩ } }).submitAging ⟨b.val + 1, h⟩
  else s.setAging { s.aging with sweep := none }

/-- A SWEEP STEP performed on a block (R118), after its grant. -/
def State.sweepBlock (s : State) (w : Sweep) (b : Block) : State :=
  (s.mapCells fun i c => if inBlock b i then c.aged w.snapshot (s.isWinner i) else c).afterStep w b

/-- What RESTART leaves of the aging unit (R124). -/
def AgingUnit.restarted (a : AgingUnit) : AgingUnit := { a with pendingTicks := Vector.replicate 4 0, sweep := none }

end Sys2Proof.Machine
end

