-- ==== Sys2Proof/Machine/Anchors.lean ====
section
/-!
DEFINITION. The Anchor Check (07): the corrected colour (R129), the five outcomes of a check (R127 to R132) and doubt
(R133).
-/
namespace Sys2Proof.Machine

/-- A gain applied to a raw component (R129): divided by 4096, rounded down, and clamped. -/
def scaled (gain : Int) (raw : Nat) : Int := clampTo 0 65535 ((gain * raw) / 4096)

/-- One row of the matrix applied to the scaled values (R129): divided by 4096, rounded toward zero, and clamped. -/
def corrected (a b c r g bl : Int) : Int := clampTo 0 65535 ((a * r + b * g + c * bl).tdiv 4096)

/-- The corrected colour of a raw reading under a grade (R129). -/
def Grade.apply (m : Grade) (r g b : Nat) : Int × Int × Int :=
  let sr := scaled m.gR r
  let sg := scaled m.gG g
  let sb := scaled m.gB b
  (corrected m.m11 m.m12 m.m13 sr sg sb, corrected m.m21 m.m22 m.m23 sr sg sb, corrected m.m31 m.m32 m.m33 sr sg sb)

/-- Whether one corrected component lies within the tolerance of its reference (R130). -/
def componentPasses (x : Int) (reference tolerance : Nat) : Bool := decide ((x - reference).natAbs ≤ tolerance)

/-- Whether a delivered grade renders a reading within the anchor's tolerance in every component (R130). -/
def Supplied.passes (a : Supplied) (m : Grade) (r : AnchorReading) : Bool :=
  let x := m.apply r.r r.g r.b
  componentPasses x.1 a.reference.r a.limits.tolerance && componentPasses x.2.1 a.reference.g a.limits.tolerance &&
    componentPasses x.2.2 a.reference.b a.limits.tolerance

/-- An illuminant entry's state written, its other fields as they stand (R5, R6). -/
def Entry.withLight (e : Entry) (st : LightState) (x : Illuminant) : Entry := { e with body := .illuminant st x }

/-- Doubt charged against a slot (R133): the count, and at the FRAME profile's limit the move to HELD. A slot that is
not LIVE is no winner and is charged nothing. -/
def State.chargeDoubt (s : State) (w : Slot) : State :=
  match (s.cell w).live with
  | none => s
  | some (e, x) =>
    let x' := { x with doubt := satAdd 7 x.doubt 1 }
    if s.frameProfile.doubtLimit ≤ x'.doubt then
      ((s.setCell w ((s.cell w).written (e.withLight .held x'))).clearWinners fun j => j == w).raise .entryHeld w.val
    else s.setCell w ((s.cell w).touchedUp (e.withLight .live x'))

/-- An anchor's working fields written: no change of generation (R17). -/
def State.writeAnchor (s : State) (i : Slot) (e : Entry) (a : AnchorBody) (streak : Nat) (o : AnchorOutcome) : State :=
  s.setCell i
    ((s.cell i).touchedUp { e with body := .anchor { supplied := a.supplied, failStreak := streak, lastOutcome := o } })

/-- A failure on a STEADY channel (R132): the streak goes up, and at the limit a drift is judged. -/
def State.failAnchor (s : State) (i : Slot) (e : Entry) (a : AnchorBody) (c : Chan) : State :=
  if a.failStreak + 1 = a.supplied.limits.streakLimit then
    let s := (s.writeAnchor i e a 0 .fail).raise .drift i.val
    match (s.channel c).winner with
    | some w => s.chargeDoubt w
    | none => s
  else s.writeAnchor i e a (a.failStreak + 1) .fail

/-- The check of one anchor reading (R126 to R133), after its grant, for a frame with this tag whose channel set holds
the channel or not. -/
def State.checkAnchor (s : State) (r : AnchorReading) (tag : Nat) (inSet : Bool) : State :=
  match (s.cell r.slot).anchor with
  | some (e, a) =>
    if inSet then
      if e.key.tag ≠ tag then s.writeAnchor r.slot e a a.failStreak .none
      else if a.supplied.passes (s.channel r.channel).delivered r then s.writeAnchor r.slot e a 0 .pass
      else if (s.channel r.channel).glide = .gliding then s.writeAnchor r.slot e a a.failStreak .deferred
      else s.failAnchor r.slot e a r.channel
    else s.raise .anchorBad r.slot.val
  | none => s.raise .anchorBad r.slot.val

end Sys2Proof.Machine
end

