-- ==== Sys2Proof/Machine/FramePath.lean ====
section
/-!
DEFINITION. The Frame Path (03): open words (R49 to R52), readings (R53, R54), close words (R55 to R57), channel
readings (R59) and the order of a frame's work (R58, R60, R61).
-/
namespace Sys2Proof.Machine

/-- The frame path rewritten. -/
def State.setPath (s : State) (p : FramePath) : State := { s with path := p }

/-- READING_STRAY, with the last accepted frame number or 0 as its detail (R48). -/
def State.stray (s : State) : State := s.raise .readingStray (s.path.lastAccepted.getD 0)

/-! ### Open words -/

/-- Whether the closing side holds a pending close (R49, overrun). -/
def Closing.hasPending : Closing → Bool
  | .busy _ (some _) => true
  | _ => false

/-- Whether an open word's number is out of order (R49, order). -/
def FramePath.outOfOrder (p : FramePath) (n : Nat) : Bool :=
  match p.lastAccepted with
  | some m => decide (n ≤ m)
  | none => false

/-- A refused open word (R49, R51): its cause, and the receiving state DISCARDING; the recorded tag stands. -/
def State.refuseFrame (s : State) (cause : Cause) (n : Nat) : State :=
  (s.raise cause n).setPath { s.path with receiving := .discarding }

/-- The ticks of an accepted open word (R50, step 4). -/
def State.passTicks (s : State) (n : Nat) : State :=
  match s.path.lastAccepted with
  | some prev => s.setAging (s.aging.addTicks prev n)
  | none => s

/-- The takeover of a staged profile (R50, step 6; R62). -/
def FrameContext.takeOver (x : FrameContext) : FrameContext :=
  match x.staged with
  | some p => { selected := p, staged := none }
  | none => x

/-- An accepted open word (R50): the open frame, if any, is abandoned, the buffer cleared, the ticks passed on, the
number and tag recorded, and a staged profile taken over. -/
def State.acceptFrame (s : State) (n tag : Nat) : State :=
  let release := s.matching.frame.staged.isSome
  let s := s.passTicks n
  let s := { s with matching := { s.matching with frame := s.matching.frame.takeOver } }
  s.setPath
    { s.path with
      receiving := .opened { number := n, tag := tag, release := release }
      tag := some tag
      zones := Vector.replicate 16 none
      anchors := []
      lastAccepted := some n }

/-- An OPEN word judged on its arrival, overrun before order (R49). -/
def State.openFrame (s : State) (n tag : Nat) : State :=
  if s.path.closing.hasPending then s.refuseFrame .frameOverrun n
  else if s.path.outOfOrder n then s.refuseFrame .frameOrder n
  else s.acceptFrame n tag

/-! ### Readings and close words -/

/-- A ZONE word (R53). -/
def State.bufferZone (s : State) (z : Zone) (r : ZoneReading) : State :=
  match s.path.receiving with
  | .idle => s.stray
  | .opened _ => s.setPath { s.path with zones := s.path.zones.set z (some r) }
  | .discarding => s

/-- An ANCHOR word (R54). -/
def State.bufferAnchor (s : State) (r : AnchorReading) : State :=
  match s.path.receiving with
  | .idle => s.stray
  | .opened f =>
    if s.path.anchors.length < Config.anchorPlaces then s.setPath { s.path with anchors := s.path.anchors ++ [r] }
    else s.raise .anchorOverflow f.number
  | .discarding => s

/-- The closed frame a close word hands over (R55, R56). -/
def FramePath.closed (p : FramePath) (f : OpenFrame) : ClosedFrame :=
  { number := f.number, tag := f.tag, zones := p.zones, anchors := p.anchors, release := f.release }

/-- A closed frame handed to the closing side (R57): it starts, or becomes the pending frame. No frame is closed while
a close is pending (R57). -/
def Closing.handOver (f : ClosedFrame) : Closing → Closing
  | .free => .handed f
  | .busy w none => .busy w (some f)
  | other => other

/-- A CLOSE word (R55). -/
def State.closeFrame (s : State) : State :=
  match s.path.receiving with
  | .idle => s.stray
  | .opened f =>
    s.setPath { s.path with receiving := .idle, closing := s.path.closing.handOver (s.path.closed f) }
  | .discarding => s.setPath { s.path with receiving := .idle }

/-! ### Channel readings (R59) -/

/-- The admitted zones of a channel: those of its zone set with a reading of at least the confidence floor. -/
def admittedZones (zoneSet : BitVec 16) (floor : Nat) (zones : Vector (Option ZoneReading) 16) : List ZoneReading :=
  (List.finRange 16).filterMap fun z =>
    if zoneSet.getLsbD z.val then
      match (zones[z] : Option ZoneReading) with
      | some r => if floor ≤ r.confidence then some r else none
      | none => none
    else none

/-- The total confidence weight W. -/
def totalConfidence (l : List ZoneReading) : Nat := (l.map fun r => r.confidence).sum

/-- One field of a channel reading: the confidence-weighted mean, rounded down. -/
def weightedMean (field : ZoneReading → Nat) (l : List ZoneReading) : Nat :=
  (l.map fun r => r.confidence * field r).sum / totalConfidence l

/-- The channel reading, or DARK when W is 0 (R59). -/
def formReading (zoneSet : BitVec 16) (floor : Nat) (f : ClosedFrame) : ChannelInput :=
  let l := admittedZones zoneSet floor f.zones
  if totalConfidence l = 0 then .dark
  else
    .reading
      { key :=
          { u := weightedMean ZoneReading.u l, v := weightedMean ZoneReading.v l
            level := weightedMean ZoneReading.level l, tag := f.tag }
        weight := totalConfidence l }

/-- What the start of a frame's work gives a channel: its input if it is enabled, nothing otherwise (R58). -/
def channelInput (floor : Nat) (f : ClosedFrame) (ch : Channel) : ChannelInput :=
  if ch.config.enabled then formReading ch.config.zoneSet floor f else .outside

/-! ### The order of a frame's work (R60, R61) -/

/-- The kept anchor readings that name a channel, in order of arrival (R60). -/
def ClosedFrame.anchorsFor (f : ClosedFrame) (c : Chan) : List AnchorReading :=
  f.anchors.filter fun r => r.channel == c

/-- The channels whose parts come after a channel's (R60). -/
def chansAfter (c : Chan) : List Chan := chans.filter fun d => c < d

/-- The closing side written. -/
def State.setClosing (s : State) (c : Closing) : State := s.setPath { s.path with closing := c }

/-- The frame's work is complete (R61): the pending frame, if any, is the next to start. -/
def State.completeFrame (s : State) (waiting : Option ClosedFrame) : State :=
  match waiting with
  | some f => s.setClosing (.handed f)
  | none => s.setClosing .free

/-- The MATCH of a channel that is not DARK is submitted (R69, R70). -/
def State.beginMatch (s : State) (w : FrameWork) (waiting : Option ClosedFrame) (c : Chan) (r : ChannelReading) :
    State :=
  let ch := (s.channel c).beginFrame w.frame.number
  ((s.setChannel c ch).submitFrame (.matching c r.key (ch.mode w.frame.release))).setClosing
    (.busy { w with channel := c, toCheck := [] } waiting)

/-- The whole frame work of a DARK channel but for its anchor checks (R69, R73). -/
def State.workDark (s : State) (w : FrameWork) (c : Chan) : State :=
  (s.setChannel c ((s.channel c).beginFrame w.frame.number).settleDark).deliver w.frame.number c .dark

/-- The next anchor reading of channel `c`'s part is submitted (R60). -/
def State.beginCheck (s : State) (w : FrameWork) (waiting : Option ClosedFrame) (c : Chan) (r : AnchorReading)
    (rest : List AnchorReading) : State :=
  (s.submitFrame (.anchor r w.frame.number w.frame.tag)).setClosing
    (.busy { w with channel := c, toCheck := rest } waiting)

/-- The parts of the channels in order (R60), up to the first operation that must wait for its grant, or to the end of
the frame (R61). -/
def State.runParts (w : FrameWork) (waiting : Option ClosedFrame) : List Chan → State → State
  | [], s => s.completeFrame waiting
  | c :: l, s =>
    match (w.inputs[c] : ChannelInput) with
    | .reading r => s.beginMatch w waiting c r
    | .dark =>
      match w.frame.anchorsFor c with
      | a :: rest => (s.workDark w c).beginCheck w waiting c a rest
      | [] => (s.workDark w c).runParts w waiting l
    | .outside =>
      match w.frame.anchorsFor c with
      | a :: rest => s.beginCheck w waiting c a rest
      | [] => s.runParts w waiting l

/-- What follows in channel `c`'s part once its record is out or a check is done (R60): the next check, or the parts of
the channels after it. -/
def State.continuePart (s : State) (w : FrameWork) (waiting : Option ClosedFrame) (c : Chan)
    (toCheck : List AnchorReading) : State :=
  match toCheck with
  | a :: rest => s.beginCheck w waiting c a rest
  | [] => s.runParts w waiting (chansAfter c)

/-- The work of a handed-over frame starts (R58): the channel set, the confidence floor and the channel readings are
taken together, and channel 0's part begins. -/
def State.startFrame (s : State) : State :=
  match s.path.closing with
  | .handed f =>
    let floor := s.frameProfile.confidenceFloor
    let w : FrameWork :=
      { frame := f, inputs := Vec.mapIdx (fun _ ch => channelInput floor f ch) s.channels, channel := 0, toCheck := [] }
    s.runParts w none chans
  | _ => s

/-- Whether a channel has frame work in progress (R68): it is in the channel set of the frame in work, and its part has
not ended. -/
def State.inWork (s : State) (c : Chan) : Bool :=
  match s.path.closing with
  | .busy w _ => (w.inputs[c] : ChannelInput) != .outside && decide (w.channel ≤ c)
  | _ => false

/-! ### The MATCH of a channel (R34, R71, R72) -/

/-- What a FRAME match does to the entry it finds (R38), with the takeover it may count (R71). -/
def Illuminant.matched (takeover : Bool) (x : Illuminant) : Illuminant :=
  { x with
    touched := true, idleTicks := 0, vigour := .active
    takeovers := if takeover then satAdd 65535 x.takeovers 1 else x.takeovers }

/-- A MATCH that results in slot `i` for channel `c` at frame `n` (R38, R71, R74, R75): the entry and the channel's
winner are written by the operation, then the channel settles its lock, target and glide. -/
def State.matchFound (s : State) (n : Nat) (c : Chan) (i : Slot) : State :=
  match (s.cell i).live with
  | some (e, x) =>
    let ch := s.channel c
    let s := s.setCell i ((s.cell i).touchedUp (e.withLight .live (x.matched (ch.winner != some i))))
    let flap := (ch.takeWinner i).flaps (ch.switches i)
    let s := s.setChannel c ((ch.takeWinner i).settleMatch n x.grade (ch.switches i))
    let s := if flap then s.raise .flap c.val else s
    s.deliver n c .matched
  | none => s

/-- A MATCH that misses for channel `c` at frame `n` (R72): the winner is gone, the target held over, and the miss
considered for learning before the record is formed. -/
def State.matchMissed (s : State) (n : Nat) (c : Chan) (input : ChannelInput) : State :=
  let s := s.setChannel c (s.channel c).settleMiss
  let s := match input with
    | .reading r => s.considerMiss c r n
    | _ => s
  s.deliver n c .miss

/-- The MATCH of channel `c` performed and settled (R34, R71, R72), after its grant: the channel uses the result, and
keeps neither the count nor the multiple flag (R34). -/
def State.matchChannel (s : State) (w : FrameWork) (c : Chan) (k : Key) (mode : MatchMode) : State :=
  match (s.frameMatch k mode (s.channel c).winner).result with
  | some i => s.matchFound w.frame.number c i
  | none => s.matchMissed w.frame.number c w.inputs[c]

/-- Whether a channel is in the frame's channel set (R58). -/
def FrameWork.inSet (w : FrameWork) (c : Chan) : Bool := (w.inputs[c] : ChannelInput) != .outside

/-- The power-on values of the frame path (R64), which RESTART returns it to (R65). -/
def FramePath.cleared : FramePath :=
  { receiving := .idle, tag := none, zones := Vector.replicate 16 none, anchors := [], closing := .free
    lastAccepted := none }

end Sys2Proof.Machine
end

