-- ==== Sys2Proof/Machine/Scopes.lean ====
section
/-!
DEFINITION. The Scope Stack (08): shadows (R16, R143), the owned-depth test (R142), and what the DROP and KEEP walks do
to a slot and to the rest of the part (R144 to R147).
-/
namespace Sys2Proof.Machine

/-! ### Shadows -/

/-- What a shadow keeps of a body (R16, R143): state, supplied body and, for an illuminant entry, class. -/
def Body.copy : Body → BodyCopy
  | .illuminant st x => .illuminant st x.grade x.cls
  | .anchor a => .anchor a.supplied

/-- A shadow of depth `d` of an entry as it stands (R143). -/
def Entry.shadowAt (d : Nat) (e : Entry) : Shadow := { depth := d, key := e.key, pin := e.pin, body := e.body.copy }

/-- The owned depth of an entry (R142): the greater of its stamp and its shadow's depth. -/
def Entry.ownedDepth (e : Entry) : Nat :=
  match e.shadow with
  | some sh => max e.stamp sh.depth
  | none => e.stamp

/-- The owned-depth test of an amending request at depth `d`, and its change (R142, R143): none is NESTED. -/
def Entry.amended (d : Nat) (f : Entry → Entry) (e : Entry) : Option Entry :=
  if d ≤ e.ownedDepth then some (f e)
  else
    match e.shadow with
    | none => some (f { e with shadow := some (e.shadowAt d) })
    | some _ => none

/-- An anchor's supplied body written: the fail streak becomes 0 and the last outcome NONE (R14). -/
def AnchorBody.supply (a : Supplied) : AnchorBody := { supplied := a, failStreak := 0, lastOutcome := .none }

/-- A body restored from a shadow's copy (R16): the illuminant working fields stand; an anchor's are reset. A shadow is
of its entry's kind (R5). -/
def Body.restore (copy : BodyCopy) (b : Body) : Body :=
  match copy, b with
  | .illuminant st g k, .illuminant _ x => .illuminant st { x with grade := g, cls := k }
  | .anchor a, .anchor _ => .anchor (AnchorBody.supply a)
  | _, b => b

/-- An entry restored from its shadow (R16, R145). -/
def Entry.restored (sh : Shadow) (e : Entry) : Entry :=
  { e with key := sh.key, pin := sh.pin, body := e.body.restore sh.body, shadow := none }

/-! ### The DROP walk -/

/-- Whether a DROP of depth `d` retires a slot (R144). -/
def Cell.dropRetires (d : Nat) (c : Cell) : Bool :=
  match c.entry with
  | some e => e.stamp == d
  | none => false

/-- The shadow a DROP of depth `d` restores a slot from (R145). -/
def Cell.dropShadow (d : Nat) (c : Cell) : Option (Entry × Shadow) :=
  match c.entry with
  | some e =>
    match e.shadow with
    | some sh => if sh.depth = d ∧ e.stamp ≠ d then some (e, sh) else none
    | none => none
  | none => none

/-- A slot as a DROP of depth `d` leaves it (R144, R145). -/
def Cell.dropped (d : Nat) (c : Cell) : Cell :=
  if c.dropRetires d then c.retired
  else
    match c.dropShadow d with
    | some (e, sh) => c.written (e.restored sh)
    | none => c

/-- Whether a DROP of depth `d` takes a slot out of LIVE: it retires it, or restores it to HELD (R146). -/
def Cell.dropUnseats (d : Nat) (c : Cell) : Bool :=
  c.dropRetires d || ((c.dropShadow d).isSome && !(c.dropped d).isLive)

/-- What a DROP of depth `d` does to the table and to the winners (R144 to R146). -/
def State.dropTable (s : State) (d : Nat) : State :=
  (s.mapCells fun _ c => c.dropped d).clearWinners fun i => (s.cell i).dropUnseats d

/-- The entries a DROP of depth `d` retires. -/
def State.dropRetired (s : State) (d : Nat) : Nat := s.table.toList.countP fun c => c.dropRetires d

/-- The entries a DROP of depth `d` restores. -/
def State.dropRestored (s : State) (d : Nat) : Nat := s.table.toList.countP fun c => (c.dropShadow d).isSome

/-- The queued requests issued at depth `d`. -/
def State.requestsAt (s : State) (d : Nat) : Nat := s.derive.queue.countP fun q => q.issueDepth == d

/-- The scope depth written. -/
def State.setDepth (s : State) (d : Nat) : State := { s with depth := d }

/-- A DROP of depth `d` (R144 to R146): the table, the winners, the queue with the unit's choice after it, the
depth. -/
def State.dropScope (s : State) (d : Nat) : State :=
  (((s.dropTable d).leaveQueue fun q => q.issueDepth == d).chooseDerive).setDepth (d - 1)

/-! ### The KEEP walk -/

/-- An entry's stamp as a KEEP of depth `d` leaves it (R147). -/
def Entry.keptStamp (d : Nat) (e : Entry) : Nat := if e.stamp = d then d - 1 else e.stamp

/-- An entry as a KEEP of depth `d` leaves it (R147): stamp and shadow depth lowered, and a shadow no longer above the
stamp removed. -/
def Entry.kept (d : Nat) (e : Entry) : Entry :=
  { e with
    stamp := e.keptStamp d
    shadow := match e.shadow with
      | some sh =>
        if sh.depth = d then (if d - 1 ≤ e.keptStamp d then none else some { sh with depth := d - 1 }) else some sh
      | none => none }

/-- A slot as a KEEP of depth `d` leaves it. -/
def Cell.kept (d : Nat) (c : Cell) : Cell :=
  match c.entry with
  | some e => c.touchedUp (e.kept d)
  | none => c

/-- Whether a KEEP of depth `d` lowers a slot's stamp. -/
def Cell.keepRestamps (d : Nat) (c : Cell) : Bool :=
  match c.entry with
  | some e => e.stamp == d
  | none => false

/-- Whether a KEEP of depth `d` lowers a slot's shadow. -/
def Cell.keepLowers (d : Nat) (c : Cell) : Bool :=
  match c.entry with
  | some e =>
    match e.shadow with
    | some sh => sh.depth == d
    | none => false
  | none => false

/-- Whether a KEEP of depth `d` removes a slot's shadow by folding. -/
def Cell.keepFolds (d : Nat) (c : Cell) : Bool :=
  match c.entry with
  | some e => c.keepLowers d && decide (d - 1 ≤ e.keptStamp d)
  | none => false

/-- A KEEP of depth `d` (R147). -/
def State.keepScope (s : State) (d : Nat) : State :=
  ((s.mapCells fun _ c => c.kept d).lowerRequests d).setDepth (d - 1)

/-! ### The scope part of RESTART (R149) -/

/-- The DROP of each open scope in turn, from a depth down to 1, on the table and the winners. -/
def State.dropAll : Nat → State → State
  | 0, s => s
  | d + 1, s => (s.dropTable (d + 1)).dropAll d

end Sys2Proof.Machine
end

