-- ==== Sys2Proof/Machine/Link.lean ====
section
/-!
DEFINITION. The Control Link (10): select periods (R165 to R167), taking a request (R168), replies (R169), and the
waiting SET CHANNEL (R86).
-/
namespace Sys2Proof.Machine

/-- The link written. -/
def State.setLink (s : State) (l : ControlLink) : State := { s with link := l }

/-- The state a status byte names (R165). -/
def LinkState.status : LinkState → LinkStatus
  | .idle => .idle
  | .working _ => .working
  | .replyReady _ => .replyReady

/-- A select period whose status byte names `shown`, with the bytes shifted out after it; the state is unchanged. -/
def State.period (s : State) (shown : LinkStatus) (tail : List Byte) : State :=
  s.setLink { s.link with out := statusByte shown :: tail }

/-- A select period that is ignored: the data output floats (R176). -/
def State.ignoredPeriod (s : State) : State := s.setLink { s.link with out := [] }

/-- A request completes: its reply waits (R165, R169). -/
def State.reply (s : State) (r : Reply) : State := s.setLink { s.link with state := .replyReady r }

/-- DONE with these result fields. -/
def State.done (s : State) (r : Results) : State := s.reply (.done r)

/-- REFUSED for this reason. -/
def State.refuse (s : State) (r : Reason) : State := s.reply (.refused r)

/-- Filler bytes (R180). -/
def fillers (n : Nat) : List Byte := List.replicate n Config.filler

/-- A select period that carries a message: dealt with by `f` in IDLE, with `tail` shifted out after the status byte,
dropped in WORKING and REPLY READY (R166), ignored before the part is ready (R176). -/
def State.openMessage (s : State) (tail : List Byte) (f : State → State) : State :=
  if s.lines.ready then
    match s.link.state with
    | .idle => f (s.period .idle tail)
    | .working _ => s.period .working []
    | .replyReady _ => s.period .replyReady []
  else s.ignoredPeriod

/-- A select period with a message that is whole, or that cannot be decoded: dealt with by `f`, with filler against the
bytes that the host clocks after it (R168), which are the first of those still listed (log entry 27). -/
def State.takeMessage (s : State) (f : State → State) : State :=
  State.openMessage { s with trailing := s.trailing.tail } (fillers (s.trailing.headD 0)) f

/-- A request taken whose operation SERVICE submits: it is the request in work (R151, R168). -/
def State.submitService (s : State) (op : ServiceOp) : State :=
  State.setLink { s with arbiter := { s.arbiter with service := some op } }
    { s.link with state := .working .operation }

/-- A request checked when taken: refused at once, or submitted (R151). -/
def State.submitChecked {α : Type} (s : State) (op : α → ServiceOp) : Except Reason α → State
  | .ok x => s.submitService (op x)
  | .error r => s.refuse r

/-- A single-slot operation at its grant (R151): the designator resolved, the operation's own work, the cursor's move
(R153) and the reply. -/
def State.atSlot (s : State) (t : Target) (act : State → Slot → State × Reply) : State :=
  let r := match t.slot s with
    | some i => act s i
    | none => (s, .refused .noFree)
  (r.1.moveCursor t.viaCursor).reply r.2

/-! ### SET CHANNEL (R85, R86) -/

/-- A SET CHANNEL performed, and its reply (R85). -/
def State.writeChannel (s : State) (c : Chan) (f : ChannelFields) : State :=
  (s.setChannel c ((s.channel c).write f)).done .nothing

/-- A waiting SET CHANNEL is performed once its channel has no frame work in progress (R86). -/
def State.performChannel (s : State) : State :=
  match s.link.state with
  | .working (.setChannel c f) => if s.inWork c then s else s.writeChannel c f
  | _ => s

/-! ### Events that come about at once -/

/-- The blends that wait are started while the blender has room (R98). -/
def State.startBlends (s : State) : State :=
  s.setDerive
    { s.derive with
      blends := (fillBlender s.derive.blends s.derive.waitingBlends).1
      waitingBlends := (fillBlender s.derive.blends s.derive.waitingBlends).2 }

/-- Every event that the spec says comes about at once, where its condition holds: a waiting SET CHANNEL before the
frame start that its channel's ending caused (R86), the start of a handed-over frame (R57, R58, R61), the blends the
blender has room for (R98), and the start of a sweep (R116). A command other than these events finds them performed
(log entry 3). -/
def State.catchUp (s : State) : State := s.performChannel.startFrame.startBlends.startSweep

end Sys2Proof.Machine
end

