-- ==== Sys2Proof/Machine/Derivations.lean ====
section
/-!
DEFINITION. The meanings of the Derivation Unit's steps: SEARCH (R96), BLEND_START and BLEND_COMPLETE (R98, R99), and
INSTALL (R100).
-/
namespace Sys2Proof.Machine

/-- SEARCH (R96, R97): the SEARCH granted to DERIVE. -/
def execSearch (s : State) : Result :=
  let s := s.catchUp
  .next (match s.deriveGrant with
    | some (.search n) =>
      match s.request n with
      | some q => s.grantDerive.searchFor q
      | none => s.grantDerive
    | _ => s)

/-- BLEND_START (R98). -/
def execBlendStart (s : State) : Result := .next (s.setDerive s.derive.startBlend)

/-- BLEND_COMPLETE (R98, R99): the blend that started first completes. -/
def execBlendComplete (s : State) : Result := .next s.catchUp.completeBlend

/-- INSTALL (R100 to R105): the INSTALL granted to DERIVE for its READY request. -/
def execInstall (s : State) : Result :=
  let s := s.catchUp
  .next (match s.deriveGrant with
    | some (.install n) =>
      match s.request n with
      | some q =>
        match q.result with
        | some g => s.grantDerive.installFor q g
        | none => s.grantDerive
      | none => s.grantDerive
    | _ => s)

end Sys2Proof.Machine
end

