-- ==== Sys2Proof/Machine/Entries.lean ====
section
/-!
DEFINITION. The meanings of the host's requests on the table and of their grants (09): PLACE, AMEND, RETIRE, SET STATE,
PIN, UNPIN, CLEAR COUNTS, READ ENTRY, SEEK, SEEK NEXT, and SET CURSOR.
-/
namespace Sys2Proof.Machine

/-! ### PLACE (R154, R155) -/

/-- PLACE taken (R154). -/
def execPlace (q : PlaceRequest) (s : State) : Result :=
  .next (s.catchUp.takeMessage fun s => s.submitChecked (fun x => .place x.1 x.2) (checkPlace s q))

/-- The body of a new entry: its working fields at the values of creation (R19). -/
def BodyCopy.created : BodyCopy → Body
  | .illuminant st g k =>
    .illuminant st
      { grade := g, cls := k, vigour := .active, idleTicks := 0, touched := false, takeovers := 0, doubt := 0 }
  | .anchor a => .anchor (AnchorBody.supply a)

/-- The entry a PLACE creates at a scope depth (R19). -/
def NewEntry.entry (n : NewEntry) (depth : Nat) : Entry :=
  { origin := .authored, key := n.key, stamp := depth, pin := n.pin, shadow := none, body := n.body.created }

/-- Whether a non-EMPTY entry holds a key identical to this one (R3). -/
def State.keyTaken (s : State) (k : Key) : Bool :=
  s.table.toList.any fun c =>
    match c.entry with
    | some e => e.key == k
    | none => false

/-- An entry created in a slot (R155, step 4), with the reply. -/
def State.create (s : State) (n : NewEntry) (i : Slot) : State × Reply :=
  let c := (s.cell i).written (n.entry s.depth)
  (s.setCell i c, .done (.slotGeneration i c.generation))

/-- A PLACE at its slot (R155): occupied, duplicate, retirement, creation. -/
def State.placeAt (n : NewEntry) (s : State) (i : Slot) : State × Reply :=
  if !(s.cell i).isEmpty && !n.overwrite then (s, .refused .slotOccupied)
  else if n.unique && s.keyTaken n.key then (s, .refused .duplicate)
  else if (s.cell i).isEmpty then s.create n i
  else (s.retire i).create n i

/-- PLACE_GRANT (R155). -/
def execPlaceGrant (s : State) : Result :=
  let s := s.catchUp
  .next (match s.serviceGrant with
    | some (.place t n) => s.grantService.atSlot t (State.placeAt n)
    | _ => s)

/-! ### The amending requests (R142, R156 to R158) -/

/-- An amending request's owned-depth test and change on a slot's entry (R142, R143); `bump` says whether the change
writes state, key or supplied body (R17). -/
def State.amendEntry (s : State) (i : Slot) (e : Entry) (bump : Bool) (f : Entry → Entry) : Option State :=
  match e.amended s.depth f with
  | some e' => some (s.setCell i (if bump then (s.cell i).written e' else (s.cell i).touchedUp e'))
  | none => none

/-- AMEND taken (R156). -/
def execAmend (q : AmendRequest) (s : State) : Result :=
  .next (s.catchUp.takeMessage fun s => s.submitChecked (fun x => .amend x.1 x.2) (checkAmend s q))

/-- Whether a change suits the kind of an entry (R156, step 3). -/
def Change.suits (c : Change) : Body → Bool
  | .illuminant _ _ => c.supplied.isNone
  | .anchor _ => c.grade.isNone && c.cls.isNone

/-- Whether a change writes key or body, and so the generation (R156, R17). -/
def Change.bumps (c : Change) : Bool := c.key.isSome || c.grade.isSome || c.supplied.isSome

/-- The carried parts of a body written (R156). -/
def Change.onBody (c : Change) : Body → Body
  | .illuminant st x => .illuminant st { x with grade := c.grade.getD x.grade, cls := c.cls.getD x.cls }
  | .anchor a =>
    match c.supplied with
    | some y => .anchor (AnchorBody.supply y)
    | none => .anchor a

/-- The carried fields of an AMEND written together (R156). -/
def Change.on (c : Change) (e : Entry) : Entry := { e with key := c.key.getD e.key, body := c.onBody e.body }

/-- Whether an expected generation is carried and differs (R18, R156). -/
def Change.isStale (c : Change) (generation : Nat) : Bool :=
  match c.expected with
  | some g => g != generation
  | none => false

/-- An AMEND at its slot (R156): EMPTY, stale, kind, owned depth, change. -/
def State.amendAt (c : Change) (s : State) (i : Slot) : State × Reply :=
  match (s.cell i).entry with
  | none => (s, .refused .slotEmpty)
  | some e =>
    if c.isStale (s.cell i).generation then (s, .refused .stale)
    else if !c.suits e.body then (s, .refused .wrongState)
    else
      match s.amendEntry i e c.bumps c.on with
      | some s' => (s', .done (.generation (s'.cell i).generation))
      | none => (s, .refused .nested)

/-- AMEND_GRANT (R156). -/
def execAmendGrant (s : State) : Result :=
  let s := s.catchUp
  .next (match s.serviceGrant with
    | some (.amend t c) => s.grantService.atSlot t (State.amendAt c)
    | _ => s)

/-- SET_STATE taken (R157). -/
def execSetState (d : Designator) (state : Nat) (s : State) : Result :=
  .next (s.catchUp.takeMessage fun s => s.submitChecked (fun x => .setState x.1 x.2) (checkSetState s d state))

/-- An illuminant body moved to a state (R157): a move to LIVE sets doubt to 0. -/
def Illuminant.moved (st : LightState) (x : Illuminant) : Illuminant :=
  match st with
  | .live => { x with doubt := 0 }
  | .held => x

/-- A SET STATE at its slot (R157): EMPTY, permitted move, owned depth, change; a move to HELD clears the winners that
name the slot. -/
def State.setStateAt (st : LightState) (s : State) (i : Slot) : State × Reply :=
  match (s.cell i).entry with
  | none => (s, .refused .slotEmpty)
  | some e =>
    match e.body with
    | .anchor _ => (s, .refused .wrongState)
    | .illuminant now x =>
      if now = st then (s, .refused .wrongState)
      else
        match s.amendEntry i e true fun e => e.withLight st (x.moved st) with
        | some s' =>
          (if st = .held then s'.clearWinners fun j => j == i else s', .done (.generation (s'.cell i).generation))
        | none => (s, .refused .nested)

/-- SET_STATE_GRANT (R157). -/
def execSetStateGrant (s : State) : Result :=
  let s := s.catchUp
  .next (match s.serviceGrant with
    | some (.setState t st) => s.grantService.atSlot t (State.setStateAt st)
    | _ => s)

/-- PIN taken (R158). -/
def execPin (d : Designator) (s : State) : Result :=
  .next (s.catchUp.takeMessage fun s => s.submitChecked .pin (resolveDesignator s d))

/-- UNPIN taken (R158). -/
def execUnpin (d : Designator) (s : State) : Result :=
  .next (s.catchUp.takeMessage fun s => s.submitChecked .unpin (resolveDesignator s d))

/-- A PIN or UNPIN at its slot (R158): EMPTY, owned depth, the pin written; the generation stands. -/
def State.setPinAt (pin : Bool) (s : State) (i : Slot) : State × Reply :=
  match (s.cell i).entry with
  | none => (s, .refused .slotEmpty)
  | some e =>
    match s.amendEntry i e false fun e => { e with pin := pin } with
    | some s' => (s', .done (.pinGeneration pin (s'.cell i).generation))
    | none => (s, .refused .nested)

/-- PIN_GRANT (R158). -/
def execPinGrant (s : State) : Result :=
  let s := s.catchUp
  .next (match s.serviceGrant with
    | some (.pin t) => s.grantService.atSlot t (State.setPinAt true)
    | _ => s)

/-- UNPIN_GRANT (R158). -/
def execUnpinGrant (s : State) : Result :=
  let s := s.catchUp
  .next (match s.serviceGrant with
    | some (.unpin t) => s.grantService.atSlot t (State.setPinAt false)
    | _ => s)

/-! ### CLEAR COUNTS, RETIRE and READ ENTRY (R159 to R161) -/

/-- CLEAR_COUNTS taken (R159). -/
def execClearCounts (d : Designator) (s : State) : Result :=
  .next (s.catchUp.takeMessage fun s => s.submitChecked .clearCounts (resolveDesignator s d))

/-- What CLEAR COUNTS clears (R136, R159). -/
def Body.cleared : Body → Body
  | .illuminant st x => .illuminant st { x with takeovers := 0, doubt := 0 }
  | .anchor a => .anchor { a with failStreak := 0 }

/-- A CLEAR COUNTS at its slot (R159): no shadow, no owned-depth test, no change of generation. -/
def State.clearCountsAt (s : State) (i : Slot) : State × Reply :=
  match (s.cell i).entry with
  | none => (s, .refused .slotEmpty)
  | some e =>
    (s.setCell i ((s.cell i).touchedUp { e with body := e.body.cleared }),
     .done (.generation (s.cell i).generation))

/-- CLEAR_COUNTS_GRANT (R159). -/
def execClearCountsGrant (s : State) : Result :=
  let s := s.catchUp
  .next (match s.serviceGrant with
    | some (.clearCounts t) => s.grantService.atSlot t State.clearCountsAt
    | _ => s)

/-- RETIRE taken (R160). -/
def execRetire (d : Designator) (s : State) : Result :=
  .next (s.catchUp.takeMessage fun s => s.submitChecked .retire (resolveDesignator s d))

/-- A RETIRE at its slot (R160). -/
def State.retireAt (s : State) (i : Slot) : State × Reply :=
  if (s.cell i).isEmpty then (s, .refused .slotEmpty)
  else (s.retire i, .done (.slotGeneration i (s.cell i).retired.generation))

/-- RETIRE_GRANT (R160). -/
def execRetireGrant (s : State) : Result :=
  let s := s.catchUp
  .next (match s.serviceGrant with
    | some (.retire t) => s.grantService.atSlot t State.retireAt
    | _ => s)

/-- READ_ENTRY taken (R161). -/
def execReadEntry (d : Designator) (s : State) : Result :=
  .next (s.catchUp.takeMessage fun s => s.submitChecked .readEntry (resolveDesignator s d))

/-- A READ ENTRY at its slot (R161): it changes nothing. -/
def State.readAt (s : State) (i : Slot) : State × Reply := (s, .done (.entry i (s.cell i)))

/-- READ_ENTRY_GRANT (R161). -/
def execReadEntryGrant (s : State) : Result :=
  let s := s.catchUp
  .next (match s.serviceGrant with
    | some (.readEntry t) => s.grantService.atSlot t State.readAt
    | _ => s)

/-! ### Searching and the cursor (R162 to R164) -/

/-- SEEK taken (R162). -/
def execSeek (key : Key) (s : State) : Result :=
  .next (s.catchUp.takeMessage fun s => if keyOk key then s.submitService (.seek key) else s.refuse .range)

/-- The reply of a SERVICE match from the context it has written (R162). -/
def State.seekReply (s : State) : Results :=
  .found
    (s.matching.service.lastMatch.map fun i =>
      { slot := i, state := (s.cell i).state, generation := (s.cell i).generation })
    s.matching.service.matchCount s.matching.service.multiple

/-- A SERVICE match performed for the host, and its reply (R39, R162). -/
def State.seekFrom (s : State) (k : Key) (start : Nat) : State :=
  let s := s.serviceMatch k start
  s.done s.seekReply

/-- SEEK_GRANT (R39, R162). -/
def execSeekGrant (s : State) : Result :=
  let s := s.catchUp
  .next (match s.serviceGrant with
    | some (.seek k) => s.grantService.seekFrom k 0
    | _ => s)

/-- SEEK_NEXT taken (R163): refused with NO_MATCH when no last seek key is held. -/
def execSeekNext (s : State) : Result :=
  .next (s.catchUp.takeMessage fun s =>
    match s.matching.service.lastSeekKey with
    | some k => s.submitService (.seekNext k s.matching.service.nextStart)
    | none => s.refuse .noMatch)

/-- SEEK_NEXT_GRANT (R39, R163). -/
def execSeekNextGrant (s : State) : Result :=
  let s := s.catchUp
  .next (match s.serviceGrant with
    | some (.seekNext k start) => s.grantService.seekFrom k start
    | _ => s)

/-- The cursor and its step written (R164). -/
def State.setCursor (s : State) (slot step : Nat) : State :=
  if h : slot < 512 then
    match cursorStepOf step with
    | some st => (s.setService { s.matching.service with cursor := ⟨slot, h⟩, cursorStep := st }).done .nothing
    | none => s.refuse .range
  else s.refuse .range

/-- SET_CURSOR (R164). -/
def execSetCursor (slot step : Nat) (s : State) : Result :=
  .next (s.catchUp.takeMessage fun s => s.setCursor slot step)

end Sys2Proof.Machine
end

