-- ==== Sys2Proof/Machine/Frames.lean ====
section
/-!
DEFINITION. The meanings of the frame path's own steps and of the pull: FRAME_WORK_START (R58), FRAME_MATCH (R34),
ANCHOR_CHECK (R126), SET_CHANNEL_PERFORM (R86) and GRADE_PORT_PULL (R82). A step that is not due does not come about
(log entry 2).
-/
namespace Sys2Proof.Machine

/-- FRAME_WORK_START (R58): a waiting SET CHANNEL that is due comes before it (R86). -/
def execFrameWorkStart (s : State) : Result := .next s.performChannel.startFrame

/-- FRAME_MATCH (R34, R71 to R76, R81): the MATCH granted to FRAME, the channel's settling, its record, and what the
ending of its own work starts (R60). -/
def execFrameMatch (s : State) : Result :=
  let s := s.catchUp
  .next (match s.frameGrant, s.path.closing with
    | some (.matching c k mode), .busy w waiting =>
      (s.grantFrame.matchChannel w c k mode).continuePart w waiting c (w.frame.anchorsFor c)
    | _, _ => s)

/-- ANCHOR_CHECK (R126 to R133): the ANCHOR operation granted to FRAME, and what its completion starts (R60). -/
def execAnchorCheck (s : State) : Result :=
  let s := s.catchUp
  .next (match s.frameGrant, s.path.closing with
    | some (.anchor r _ tag), .busy w waiting =>
      (s.grantFrame.checkAnchor r tag (w.inSet r.channel)).continuePart w waiting r.channel w.toCheck
    | _, _ => s)

/-- SET_CHANNEL_PERFORM (R86). -/
def execSetChannelPerform (s : State) : Result := .next s.performChannel

/-- The words a pull has to deliver: the oldest record's, or the empty indication (R82, R182). -/
def GradePort.oldestWords (p : GradePort) : List Word :=
  match p.queue with
  | [] => emptyIndication
  | r :: _ => r.words

/-- A pull begins (R82): the oldest record leaves the queue and its first word is out; a record still being delivered is
delivered whole before it (log entry 18). -/
def GradePort.pull (p : GradePort) : GradePort :=
  { queue := p.queue.tail, delivering := p.oldestWords.tail
    out := p.out ++ p.delivering ++ p.oldestWords.take 1 }

/-- The pull in progress, if any, delivers its next word (R82). -/
def GradePort.advance (p : GradePort) : GradePort :=
  match p.delivering with
  | [] => p
  | w :: l => { p with delivering := l, out := p.out ++ [w] }

/-- What the part does while no command waits: the pull in progress goes on (R82; log entry 18). -/
def State.deliverWord (s : State) : State := { s with port := s.port.advance }

/-- GRADE_PORT_PULL (R82): the pull begins; its further words come while no command waits, unless RESET ends it (R176). -/
def execGradePortPull (s : State) : Result :=
  let s := s.catchUp
  .next { s with port := s.port.pull }

end Sys2Proof.Machine
end

