-- ==== Sys2Proof/Machine/Periods.lean ====
section
/-!
DEFINITION. The meanings of the select periods that carry no request taken: FETCH and FETCH_CUT_SHORT (R167),
MESSAGE_DROPPED (R166), MESSAGE_CUT_SHORT and MALFORMED (R168), SELECT_ABORTED (R165). Before them, the command that the
bytes of a select period are for the part, put before it.
-/
namespace Sys2Proof.Machine

/-- The bytes of the reply that waits, if one does. -/
def LinkState.replyLength : LinkState → Nat
  | .replyReady r => r.bytes.length
  | _ => 0

/-- The command a select period is, from the part as it stands when select is asserted: its status byte names the state of
the link with every completion recorded (R165), and a period begun before the part is ready is ignored whenever it ends,
as one released before its first byte is whole (R176). -/
def State.hostPeriod (s : State) (bytes : List Byte) : Instr :=
  if s.lines.ready then selectPeriod s.catchUp.link.state.status s.catchUp.link.state.replyLength bytes
  else .selectAborted

/-- The part with the host's next select period before it: the command it is at the front of the queue, and, where it
carries a message to its end, the number of bytes it clocks after that (R168). -/
def State.hostSends (s : State) (bytes : List Byte) : State :=
  { s with
    pending := s.hostPeriod bytes :: s.pending
    trailing :=
      match (if s.lines.ready then bytesAfterMessage s.catchUp.link.state.status bytes else none) with
      | some n => n :: s.trailing
      | none => s.trailing }

/-- FETCH (R167): in a period whose status byte named REPLY READY the reply is shifted out whole and the link becomes
IDLE; else filler, and nothing changes. The status byte of the period decides, not a later state (R165). -/
def execFetch (shown : LinkStatus) (extra : Nat) (s : State) : Result :=
  let s := s.catchUp
  .next (if s.lines.ready then
      match shown, s.link.state with
      | .replyReady, .replyReady r =>
        s.setLink { state := .idle, out := statusByte shown :: (r.bytes ++ fillers extra) }
      | _, _ => s.period shown (fillers extra)
    else s.ignoredPeriod)

/-- FETCH_CUT_SHORT (R167): select released after `got` bytes of the reply. The reply is kept and LINK_ERROR raised with
detail 00h, unless the bytes were all of it. -/
def execFetchCutShort (got : Nat) (s : State) : Result :=
  let s := s.catchUp
  .next (if s.lines.ready then
      match s.link.state with
      | .replyReady r =>
        if got < r.bytes.length then (s.period .replyReady (r.bytes.take got)).raise .linkError 0
        else s.setLink { state := .idle, out := statusByte .replyReady :: (r.bytes ++ fillers (got - r.bytes.length)) }
      | other => s.period other.status (fillers got)
    else s.ignoredPeriod)

/-- MESSAGE_DROPPED (R166): a message in a period whose status byte named WORKING or REPLY READY. No cause. -/
def execMessageDropped (shown : LinkStatus) (_code : Byte) (s : State) : Result :=
  let s := s.catchUp
  .next (if s.lines.ready then s.period shown [] else s.ignoredPeriod)

/-- MESSAGE_CUT_SHORT (R168): LINK_ERROR with the message's request code. In WORKING and REPLY READY the message is
dropped without a cause (R166). -/
def execMessageCutShort (code : Byte) (s : State) : Result :=
  .next (s.catchUp.openMessage [] fun s => s.raise .linkError code.toNat)

/-- SELECT_ABORTED (R165): no effect; the status byte partly shifted out is lost. -/
def execSelectAborted (s : State) : Result := .next s.catchUp.ignoredPeriod

/-- MALFORMED (R168): answered REFUSED MALFORMED at once. -/
def execMalformed (_code : Byte) (s : State) : Result :=
  .next (s.catchUp.takeMessage fun s => s.refuse .malformed)

end Sys2Proof.Machine
end

