-- ==== Sys2Proof/Machine/Power.lean ====
section
/-!
DEFINITION. The meanings of POWER_ON, RESET, RESET_RELEASE and PART_READY (R24, R64, R176).
-/
namespace Sys2Proof.Machine

/-- Every block at its power-on values, with these lines; the commands that wait, and what the host clocks after its
messages, are no part of any block. -/
def State.atPowerOn (s : State) (l : Lines) : State :=
  { State.reset with lines := l, pending := s.pending, trailing := s.trailing }

/-- POWER_ON (R24): every block at its power-on values, the part not yet ready. The RESET line is as it is driven. -/
def execPowerOn (s : State) : Result :=
  .next (s.atPowerOn { resetAsserted := s.lines.resetAsserted, ready := false })

/-- RESET (R176): every block at its power-on values, the line asserted, the part not ready. -/
def execReset (s : State) : Result := .next (s.atPowerOn { resetAsserted := true, ready := false })

/-- RESET_RELEASE (R176): the line is released; the part becomes ready by PART_READY. -/
def execResetRelease (s : State) : Result := .next { s with lines := { s.lines with resetAsserted := false } }

/-- PART_READY (R64, R176): the delay after release or power-on expires. While RESET is asserted no such delay runs. -/
def execPartReady (s : State) : Result :=
  .next (if s.lines.resetAsserted then s else { s with lines := { s.lines with ready := true } })

end Sys2Proof.Machine
end

