-- ==== Sys2Proof/Machine/Readings.lean ====
section
/-!
DEFINITION. The meanings of the reading words (R47 to R57). Before the part is ready they are discarded without a cause
(R64).
-/
namespace Sys2Proof.Machine

/-- A reading word dealt with by `f` once the part is ready, discarded before (R64). -/
def State.takeWord (s : State) (f : State → State) : State := if s.lines.ready then f s else s

/-- OPEN_WORD (R49 to R52). -/
def execOpenWord (number : BitVec 32) (tag : BitVec 4) (s : State) : Result :=
  .next (s.catchUp.takeWord fun s => s.openFrame number.toNat tag.toNat)

/-- ZONE_WORD (R53). -/
def execZoneWord (zone : Zone) (u v : BitVec 12) (level : BitVec 7) (confidence : BitVec 8) (s : State) : Result :=
  .next (s.catchUp.takeWord fun s =>
    s.bufferZone zone
      { u := u.toNat, v := v.toNat, level := level.toNat, confidence := confidence.toNat })

/-- ANCHOR_WORD (R54). -/
def execAnchorWord (slot : Slot) (channel : Chan) (r g b : BitVec 16) (s : State) : Result :=
  .next (s.catchUp.takeWord fun s =>
    s.bufferAnchor { slot := slot, channel := channel, r := r.toNat, g := g.toNat, b := b.toNat })

/-- CLOSE_WORD (R55 to R57). -/
def execCloseWord (s : State) : Result := .next (s.catchUp.takeWord State.closeFrame)

/-- UNKNOWN_KIND_WORD (R48): discarded with READING_STRAY, whatever its kind and whatever the receiving state. -/
def execUnknownKindWord (_kind : BitVec 4) (s : State) : Result := .next (s.catchUp.takeWord State.stray)

end Sys2Proof.Machine
end

