-- ==== Sys2Proof/Machine/Settings.lean ====
section
/-!
DEFINITION. The meanings of the requests answered at once on settings and reports: SET PROFILE (R28), SET SERVICE MATCH
(R32), STAGE PROFILE (R63), SET CHANNEL and READ CHANNEL (R85, R87), SET LEARNING and READ DERIVATIONS (R109, R110),
SET CLASS (R113), READ STATUS (R173), READ CAUSES and CLEAR CAUSES (R172), SET NOTICE MASK (R171).
-/
namespace Sys2Proof.Machine

/-- A profile's carried fields written, or RANGE (R28). -/
def State.setProfile (s : State) (profile : Nat) (f : ProfileFields) : State :=
  match profileOf profile with
  | some p =>
    if profileFieldsOk f then
      State.done
        { s with matching := { s.matching with profiles := s.matching.profiles.set p (s.matching.profiles[p].write f) } }
        .nothing
    else s.refuse .range
  | none => s.refuse .range

/-- SET_PROFILE (R28). -/
def execSetProfile (profile : Nat) (f : ProfileFields) (s : State) : Result :=
  .next (s.catchUp.takeMessage fun s => s.setProfile profile f)

/-- The SERVICE selection and filter written and the search forgotten, or RANGE (R32). -/
def State.setServiceMatch (s : State) (profile filter : Nat) : State :=
  match profileOf profile, filterOf filter with
  | some p, some f => (s.setService { s.matching.service.forget with selected := p, filter := f }).done .nothing
  | _, _ => s.refuse .range

/-- SET_SERVICE_MATCH (R32). -/
def execSetServiceMatch (profile filter : Nat) (s : State) : Result :=
  .next (s.catchUp.takeMessage fun s => s.setServiceMatch profile filter)

/-- A profile staged, or RANGE (R63). -/
def State.stageProfile (s : State) (profile : Nat) : State :=
  match profileOf profile with
  | some p =>
    State.done { s with matching := { s.matching with frame := { s.matching.frame with staged := some p } } } .nothing
  | none => s.refuse .range

/-- STAGE_PROFILE (R63). -/
def execStageProfile (profile : Nat) (s : State) : Result :=
  .next (s.catchUp.takeMessage fun s => s.stageProfile profile)

/-- SET CHANNEL taken (R85): RANGE, performed at once, or made to wait for the channel's frame work. -/
def State.takeSetChannel (s : State) (channel : Nat) (f : ChannelFields) : State :=
  match channelOf channel with
  | some c =>
    if channelFieldsOk f then
      if s.inWork c then s.setLink { s.link with state := .working (.setChannel c f) } else s.writeChannel c f
    else s.refuse .range
  | none => s.refuse .range

/-- SET_CHANNEL (R85). -/
def execSetChannel (channel : Nat) (f : ChannelFields) (s : State) : Result :=
  .next (s.catchUp.takeMessage fun s => s.takeSetChannel channel f)

/-- A channel's record returned, or RANGE (R87). -/
def State.readChannel (s : State) (channel : Nat) : State :=
  match channelOf channel with
  | some c => s.done (.channel (s.channel c))
  | none => s.refuse .range

/-- READ_CHANNEL (R87). -/
def execReadChannel (channel : Nat) (s : State) : Result :=
  .next (s.catchUp.takeMessage fun s => s.readChannel channel)

/-- The learning settings written, or RANGE (R109). -/
def State.setLearning (s : State) (reserve eviction : Option Nat) : State :=
  if carriedOk (within 0 64) reserve && carriedOk (within 0 1) eviction then
    (s.setDerive
      { s.derive with
        reserve := reserve.getD s.derive.reserve
        evictionPermitted := (eviction.map fun n => n == 1).getD s.derive.evictionPermitted }).done .nothing
  else s.refuse .range

/-- SET_LEARNING (R109). -/
def execSetLearning (reserve eviction : Option Nat) (s : State) : Result :=
  .next (s.catchUp.takeMessage fun s => s.setLearning reserve eviction)

/-- What READ DERIVATIONS returns (R110). -/
def DerivationUnit.report (d : DerivationUnit) : DerivationReport :=
  { queue := d.queue, reserve := d.reserve, evictionPermitted := d.evictionPermitted, nextNumber := d.nextNumber
    blendsInProgress := d.blends.length, lastEnding := d.lastEnding }

/-- READ_DERIVATIONS (R110). -/
def execReadDerivations (s : State) : Result :=
  .next (s.catchUp.takeMessage fun s => s.done (.derivations s.derive.report))

/-- A class descriptor written and returned, or RANGE (R113). -/
def State.setClass (s : State) (cls : Nat) (f : ClassFields) : State :=
  match classNumberOf cls with
  | some k =>
    let d := (s.aging.classes[k] : ClassDescriptor).write f
    if classFieldsOk f && d.sound then
      (s.setAging { s.aging with classes := s.aging.classes.set k d }).done
        (.classDescriptor d s.aging.pendingTicks[k])
    else s.refuse .range
  | none => s.refuse .range

/-- SET_CLASS (R113). -/
def execSetClass (cls : Nat) (f : ClassFields) (s : State) : Result :=
  .next (s.catchUp.takeMessage fun s => s.setClass cls f)

/-- The closing state with the numbers it holds (R57, R173). -/
def Closing.report : Closing → ClosingReport
  | .free => .free
  | .handed f => .busy f.number
  | .busy w none => .busy w.frame.number
  | .busy w (some f) => .busyPending w.frame.number f.number

/-- What READ STATUS returns (R173). -/
def State.statusReport (s : State) : StatusReport :=
  { emptyCount := s.countOf .empty, liveCount := s.countOf .live, heldCount := s.countOf .held
    anchorCount := s.countOf .anchor, nextFree := s.nextFree, lastFree := s.lastFree, depth := s.depth
    queueLength := s.derive.queue.length, lastAccepted := s.path.lastAccepted, receiving := s.path.receiving
    closing := s.path.closing.report, sweeping := s.aging.sweep.isSome }

/-- READ_STATUS (R173). -/
def execReadStatus (s : State) : Result :=
  .next (s.catchUp.takeMessage fun s => s.done (.status s.statusReport))

/-- READ_CAUSES (R172). -/
def execReadCauses (s : State) : Result :=
  .next (s.catchUp.takeMessage fun s => s.done (.causes s.notices))

/-- The flags of a set of causes cleared, or RANGE (R172). -/
def State.clearCauses (s : State) (causes : Nat) : State :=
  if causeSetOk causes then State.done { s with notices := s.notices.clear causes } .nothing else s.refuse .range

/-- CLEAR_CAUSES (R172). -/
def execClearCauses (causes : Nat) (s : State) : Result :=
  .next (s.catchUp.takeMessage fun s => s.clearCauses causes)

/-- The enable mask replaced, or RANGE (R171). -/
def State.setNoticeMask (s : State) (causes : Nat) : State :=
  if causeSetOk causes then
    State.done { s with notices := { s.notices with mask := BitVec.ofNat 13 causes } } .nothing
  else s.refuse .range

/-- SET_NOTICE_MASK (R171). -/
def execSetNoticeMask (causes : Nat) (s : State) : Result :=
  .next (s.catchUp.takeMessage fun s => s.setNoticeMask causes)

end Sys2Proof.Machine
end

