-- ==== Sys2Proof/Machine/Sweeps.lean ====
section
/-!
DEFINITION. The meanings of the Aging Unit's steps: SWEEP_START (R116) and SWEEP_STEP (R118).
-/
namespace Sys2Proof.Machine

/-- SWEEP_START (R116). -/
def execSweepStart (s : State) : Result := .next s.startSweep

/-- SWEEP_STEP (R117 to R121): the step granted to AGING. -/
def execSweepStep (s : State) : Result :=
  let s := s.catchUp
  .next (match s.agingGrant, s.aging.sweep with
    | some b, some w => s.grantAging.sweepBlock w b
    | _, _ => s)

end Sys2Proof.Machine
end

