-- ==== Sys2Proof/Machine/WholePart.lean ====
section
/-!
DEFINITION. The meanings of the requests that act by a WALK, and of OPEN SCOPE: OPEN SCOPE (R139), CLOSE SCOPE with its
DROP and KEEP walks (R140, R144 to R147), RESTART (R174) and CLEAR TABLE (R175).
-/
namespace Sys2Proof.Machine

/-! ### Scopes (R139, R140) -/

/-- A scope opened, or SCOPE_FULL (R139). -/
def State.openScope (s : State) : State :=
  if s.depth < Config.maxDepth then (s.setDepth (s.depth + 1)).done (.depth (s.depth + 1)) else s.refuse .scopeFull

/-- OPEN_SCOPE (R139). -/
def execOpenScope (s : State) : Result := .next (s.catchUp.takeMessage State.openScope)

/-- CLOSE SCOPE taken (R140): mode, depth, then the WALK for the current depth; positions 0 and 1 are KEEP and DROP. That
the mode is tested before the depth is the model's choice (log entry 28). -/
def State.takeCloseScope (s : State) (mode : Nat) : State :=
  if 2 ≤ mode then s.refuse .range
  else if s.depth = 0 then s.refuse .noScope
  else s.submitService (if mode = 0 then .keep s.depth else .drop s.depth)

/-- CLOSE_SCOPE (R140). -/
def execCloseScope (mode : Nat) (s : State) : Result :=
  .next (s.catchUp.takeMessage fun s => s.takeCloseScope mode)

/-- The result fields of a DROP (R140), from the part before it. -/
def State.dropResults (s : State) (d : Nat) : Results :=
  .dropped (d - 1) (s.dropRetired d) (s.dropRestored d) (s.requestsAt d)

/-- The result fields of a KEEP (R140), from the part before it. -/
def State.keepResults (s : State) (d : Nat) : Results :=
  .kept (d - 1) (s.table.toList.countP fun c => c.keepRestamps d) (s.table.toList.countP fun c => c.keepLowers d)
    (s.table.toList.countP fun c => c.keepFolds d) (s.requestsAt d)

/-- DROP_WALK (R144 to R146). -/
def execDropWalk (s : State) : Result :=
  let s := s.catchUp
  .next (match s.serviceGrant with
    | some (.drop d) => (s.grantService.dropScope d).done (s.dropResults d)
    | _ => s)

/-- KEEP_WALK (R147). -/
def execKeepWalk (s : State) : Result :=
  let s := s.catchUp
  .next (match s.serviceGrant with
    | some (.keep d) => (s.grantService.keepScope d).done (s.keepResults d)
    | _ => s)

/-! ### RESTART (R174) -/

/-- RESTART taken (R174). -/
def execRestart (s : State) : Result :=
  .next (s.catchUp.takeMessage fun s => s.submitService .restart)

/-- The waiting operations of FRAME, DERIVE and AGING withdrawn (R46). -/
def State.withdrawOthers (s : State) : State :=
  { s with arbiter := { s.arbiter with frame := none, derive := none, aging := none } }

/-- The SERVICE search forgotten and the staged profile made absent (R29, R42, R65). -/
def MatchUnit.restarted (m : MatchUnit) : MatchUnit :=
  { m with frame := { m.frame with staged := none }, service := m.service.forget }

/-- What the RESTART WALK does to every block (R174), each as its own chapter gives. -/
def State.restartAll (s : State) : State :=
  let s := (s.dropAll s.depth).emptyQueue.withdrawOthers
  { s with
    matching := s.matching.restarted
    path := .cleared
    channels := Vec.mapIdx (fun _ ch => Channel.restarted ch) s.channels
    port := { s.port with queue := [] }
    aging := s.aging.restarted
    depth := 0
    notices := s.notices.restarted }

/-- RESTART_WALK (R174). -/
def execRestartWalk (s : State) : Result :=
  let s := s.catchUp
  .next (match s.serviceGrant with
    | some .restart => s.grantService.restartAll.done .nothing
    | _ => s)

/-! ### CLEAR TABLE (R175) -/

/-- CLEAR_TABLE taken (R175). -/
def execClearTable (s : State) : Result :=
  .next (s.catchUp.takeMessage fun s => s.submitService .clearTable)

/-- A slot as CLEAR TABLE leaves it (R25): an EMPTY slot keeps its generation. -/
def Cell.wiped (c : Cell) : Cell := if c.isEmpty then c else c.retired

/-- What the CLEAR TABLE WALK does (R175). The emptied queue takes the pending derivations with it (R106, R111), though R88
says that CLEAR TABLE leaves every channel field but the winner: log entry 25. -/
def State.clearAll (s : State) : State :=
  let s := ((s.mapCells fun _ c => c.wiped).clearWinners fun i => !(s.cell i).isEmpty).emptyQueue
  s.setService s.matching.service.forget

/-- CLEAR_TABLE_WALK (R175). -/
def execClearTableWalk (s : State) : Result :=
  let s := s.catchUp
  .next (match s.serviceGrant with
    | some .clearTable => s.grantService.clearAll.done (.cleared (s.table.toList.countP fun c => !c.isEmpty))
    | _ => s)

end Sys2Proof.Machine
end

