-- ==== Sys2Proof/Machine/Dispatch.lean ====
section
/-! DEFINITION. One arm per command: each calls its meaning. -/
namespace Sys2Proof.Machine

/-- The effect of a command on everything but the queue. -/
def exec (i : Instr) (s : State) : Host.Outcome State Fault Refusal :=
  match i with
  | .powerOn => Sys2Proof.Machine.execPowerOn s
  | .reset => Sys2Proof.Machine.execReset s
  | .resetRelease => Sys2Proof.Machine.execResetRelease s
  | .partReady => Sys2Proof.Machine.execPartReady s
  | .openWord number tag => Sys2Proof.Machine.execOpenWord number tag s
  | .zoneWord zone u v level confidence => Sys2Proof.Machine.execZoneWord zone u v level confidence s
  | .anchorWord slot channel r g b => Sys2Proof.Machine.execAnchorWord slot channel r g b s
  | .closeWord => Sys2Proof.Machine.execCloseWord s
  | .unknownKindWord kind => Sys2Proof.Machine.execUnknownKindWord kind s
  | .frameWorkStart => Sys2Proof.Machine.execFrameWorkStart s
  | .frameMatch => Sys2Proof.Machine.execFrameMatch s
  | .anchorCheck => Sys2Proof.Machine.execAnchorCheck s
  | .search => Sys2Proof.Machine.execSearch s
  | .blendStart => Sys2Proof.Machine.execBlendStart s
  | .blendComplete => Sys2Proof.Machine.execBlendComplete s
  | .install => Sys2Proof.Machine.execInstall s
  | .sweepStart => Sys2Proof.Machine.execSweepStart s
  | .sweepStep => Sys2Proof.Machine.execSweepStep s
  | .gradePortPull => Sys2Proof.Machine.execGradePortPull s
  | .fetch shown extra => Sys2Proof.Machine.execFetch shown extra s
  | .fetchCutShort got => Sys2Proof.Machine.execFetchCutShort got s
  | .messageDropped shown code => Sys2Proof.Machine.execMessageDropped shown code s
  | .messageCutShort code => Sys2Proof.Machine.execMessageCutShort code s
  | .selectAborted => Sys2Proof.Machine.execSelectAborted s
  | .malformed code => Sys2Proof.Machine.execMalformed code s
  | .place q => Sys2Proof.Machine.execPlace q s
  | .placeGrant => Sys2Proof.Machine.execPlaceGrant s
  | .amend q => Sys2Proof.Machine.execAmend q s
  | .amendGrant => Sys2Proof.Machine.execAmendGrant s
  | .retire d => Sys2Proof.Machine.execRetire d s
  | .retireGrant => Sys2Proof.Machine.execRetireGrant s
  | .setState d state => Sys2Proof.Machine.execSetState d state s
  | .setStateGrant => Sys2Proof.Machine.execSetStateGrant s
  | .pin d => Sys2Proof.Machine.execPin d s
  | .pinGrant => Sys2Proof.Machine.execPinGrant s
  | .unpin d => Sys2Proof.Machine.execUnpin d s
  | .unpinGrant => Sys2Proof.Machine.execUnpinGrant s
  | .clearCounts d => Sys2Proof.Machine.execClearCounts d s
  | .clearCountsGrant => Sys2Proof.Machine.execClearCountsGrant s
  | .readEntry d => Sys2Proof.Machine.execReadEntry d s
  | .readEntryGrant => Sys2Proof.Machine.execReadEntryGrant s
  | .seek key => Sys2Proof.Machine.execSeek key s
  | .seekGrant => Sys2Proof.Machine.execSeekGrant s
  | .seekNext => Sys2Proof.Machine.execSeekNext s
  | .seekNextGrant => Sys2Proof.Machine.execSeekNextGrant s
  | .setCursor slot step => Sys2Proof.Machine.execSetCursor slot step s
  | .setProfile profile f => Sys2Proof.Machine.execSetProfile profile f s
  | .setServiceMatch profile filter => Sys2Proof.Machine.execSetServiceMatch profile filter s
  | .stageProfile profile => Sys2Proof.Machine.execStageProfile profile s
  | .setChannel channel f => Sys2Proof.Machine.execSetChannel channel f s
  | .setChannelPerform => Sys2Proof.Machine.execSetChannelPerform s
  | .readChannel channel => Sys2Proof.Machine.execReadChannel channel s
  | .setLearning reserve eviction => Sys2Proof.Machine.execSetLearning reserve eviction s
  | .readDerivations => Sys2Proof.Machine.execReadDerivations s
  | .setClass cls f => Sys2Proof.Machine.execSetClass cls f s
  | .openScope => Sys2Proof.Machine.execOpenScope s
  | .closeScope mode => Sys2Proof.Machine.execCloseScope mode s
  | .dropWalk => Sys2Proof.Machine.execDropWalk s
  | .keepWalk => Sys2Proof.Machine.execKeepWalk s
  | .readStatus => Sys2Proof.Machine.execReadStatus s
  | .readCauses => Sys2Proof.Machine.execReadCauses s
  | .clearCauses causes => Sys2Proof.Machine.execClearCauses causes s
  | .setNoticeMask causes => Sys2Proof.Machine.execSetNoticeMask causes s
  | .restart => Sys2Proof.Machine.execRestart s
  | .restartWalk => Sys2Proof.Machine.execRestartWalk s
  | .clearTable => Sys2Proof.Machine.execClearTable s
  | .clearTableWalk => Sys2Proof.Machine.execClearTableWalk s

end Sys2Proof.Machine
end

