-- ==== Sys2Proof/Machine/Step.lean ====
section
/-!
DEFINITION. One step: the command at the front of the queue is taken and its effect answered; on an empty queue the pull
in progress delivers its next word, and with none in progress the part idles (log entries 1 and 18).
-/
namespace Sys2Proof.Machine

/-- One step of the part. -/
def step (s : State) : Host.Outcome State Fault Refusal :=
  match s.pending with
  | [] => .next s.deliverWord
  | c :: rest => exec c { s with pending := rest }

/-- A state with the command a word of the table spells at the front of its queue (log entry 16). -/
def State.withFetchWord (s : State) (nbits w : Nat) : State :=
  match decodeTableWord nbits w with
  | some c => { s with pending := c :: s.pending }
  | none => s

end Sys2Proof.Machine
end

