-- ==== Sys2Proof/Safety.lean ====
section
/-!
DEFINITION. What the statements speak of: when nothing is due by itself, when the link listens, the answer to a request,
and the invariants the spec states over the whole part.
-/
namespace Sys2Proof.Machine

/-! ### What is due at once -/

/-- A SET CHANNEL waits whose channel has no frame work in progress (R86). -/
def State.channelDue (s : State) : Bool :=
  match s.link.state with
  | .working (.setChannel c _) => !s.inWork c
  | _ => false

/-- A handed-over frame has not started (R57, R61). -/
def State.frameDue (s : State) : Bool :=
  match s.path.closing with
  | .handed _ => true
  | _ => false

/-- A blend waits though the blender has room (R98). -/
def State.blendDue (s : State) : Bool :=
  !s.derive.waitingBlends.isEmpty && decide (s.derive.blends.length < 4)

/-- Nothing is due by itself (R86, R57, R98, R116). -/
def State.settled (s : State) : Bool := !s.channelDue && !s.frameDue && !s.blendDue && !s.aging.sweepDue

/-- The part takes the next request message: it is ready, nothing is due, and the link is IDLE (R165). -/
def State.listens (s : State) : Bool := s.settled && s.lines.ready && s.link.state == .idle

/-- The part takes the next reading word (R64), with nothing due. -/
def State.reads (s : State) : Bool := s.settled && s.lines.ready

/-- What a period shifts out whose message is taken: the status byte IDLE, and filler against the bytes that the host
clocks after the message (R165, R168, R180). -/
def State.messageOut (s : State) : List Byte := 0x81 :: List.replicate (s.trailing.headD 0) 0xFF

/-- A request answered at once: its reply waits (R165). -/
def State.answers (s : State) (r : Reply) : State :=
  { s with link := { state := .replyReady r, out := s.messageOut }, trailing := s.trailing.tail }

/-- A request whose operation SERVICE has submitted: it is in work (R151, R168). -/
def State.submits (s : State) (op : ServiceOp) : State :=
  { s with
    arbiter := { s.arbiter with service := some op }
    link := { state := .working .operation, out := s.messageOut }
    trailing := s.trailing.tail }

/-- An operation of SERVICE is the one granted next, with nothing due (R44). -/
def State.grantsService (s : State) (op : ServiceOp) : Prop := s.settled = true ∧ s.serviceGrant = some op

/-- The grant of SERVICE's single-slot operation completed with a reply, and the cursor moved when the request named it
(R44, R151, R153); the operation's own changes are beside it. -/
def State.completes (s : State) (t : Target) (r : Reply) : State :=
  { s with
    arbiter := { s.arbiter with rotation := .service, service := none }
    matching :=
      { s.matching with
        service := if t.viaCursor then s.matching.service.stepCursor else s.matching.service }
    link := { s.link with state := .replyReady r } }

/-- An operation of FRAME is the one granted next, in this frame's work, with nothing due (R44, R60). -/
def State.grantsFrame (s : State) (op : FrameOp) (w : FrameWork) (waiting : Option ClosedFrame) : Prop :=
  s.settled = true ∧ s.frameGrant = some op ∧ s.path.closing = .busy w waiting

/-- The arbiter after a grant to FRAME (R44). -/
def Arbiter.servedFrame (a : Arbiter) : Arbiter := { a with rotation := .frame, frame := none }

/-- The arbiter after a grant to DERIVE (R44). -/
def Arbiter.servedDerive (a : Arbiter) : Arbiter := { a with rotation := .derive, derive := none }

/-- A cause raised (R170). -/
def NoticeUnit.raised (u : NoticeUnit) (c : Cause) (detail : Nat) : NoticeUnit :=
  { u with causes := u.causes.set c.index { pending := true, detail := detail } }

/-- A slot is LIVE with this entry and body. -/
def Cell.holdsLive (c : Cell) (e : Entry) (x : Illuminant) : Prop := c.entry = some e ∧ e.body = .illuminant .live x

/-- A channel without the winner `i` (R79). -/
def Channel.without (i : Slot) (ch : Channel) : Channel :=
  if ch.winner = some i then { ch with winner := none } else ch

/-- A channel without a reference to request `n` (R106). -/
def Channel.forgets (n : Nat) (ch : Channel) : Channel :=
  if ch.pendingDerivation = some n then { ch with pendingDerivation := none } else ch

/-- An amending request at depth `d` is refused with NESTED (R142): the entry has a shadow, and its owned depth, the
greater of its stamp and the shadow's depth, is below `d`. -/
def Entry.nests (d : Nat) (e : Entry) : Prop := ∃ sh, e.shadow = some sh ∧ max e.stamp sh.depth < d

/-- An entry as an amending request at depth `d` that is not refused changes it (R142, R143): without a shadow and with
its owned depth, its stamp, below `d` it first takes a shadow of depth `d`, with its state, key, supplied body and pin
and, when LIVE or HELD, its class; otherwise it is as it stands. -/
def Entry.forChange (d : Nat) (e : Entry) : Entry :=
  if e.shadow = none ∧ e.stamp < d then
    { e with
      shadow :=
        some
          { depth := d, key := e.key, pin := e.pin
            body := match e.body with
              | .illuminant st x => .illuminant st x.grade x.cls
              | .anchor a => .anchor a.supplied } }
  else e

/-- The commands that find the events that come about at once already performed (log entry 3). -/
def comesAfterDueEvents : Instr → Bool
  | .powerOn => false
  | .reset => false
  | .resetRelease => false
  | .partReady => false
  | .frameWorkStart => false
  | .blendStart => false
  | .sweepStart => false
  | .setChannelPerform => false
  | _ => true

/-- The commands that are request messages (R179). -/
def isRequest (i : Instr) : Bool := !(encodeMessage i).isEmpty

/-- The commands that carry a message to its end: a request, or one that cannot be decoded (R168). -/
def carriesMessage (i : Instr) : Bool :=
  isRequest i ||
    match i with
    | .malformed _ => true
    | _ => false

/-- A blend in progress once the requests of these numbers have gone: it completes into nothing when it served one of
them (R98). -/
def Blend.without (gone : List Nat) (b : Blend) : Blend :=
  match b.request with
  | some n => if n ∈ gone then { b with request := none } else b
  | none => b

/-- A blend still waits to start once the requests of these numbers have gone (R98). -/
def Blend.startsWithout (gone : List Nat) (b : Blend) : Bool :=
  match b.request with
  | some n => decide (n ∉ gone)
  | none => true

/-- What a request's departure by an ending leaves (R106, R107): the queue without it, no channel reference to it, no
blend that serves it, the last ending, and the unit's next choice (R95). -/
def State.endsRequest (s t : State) (q : Derivation) (e : Ending) (notices : NoticeUnit) : Prop :=
  ∃ u : State,
    t = u.chooseDerive ∧
      u =
        { s with
          arbiter := s.arbiter.servedDerive
          channels := u.channels
          derive :=
            { s.derive with
              queue := s.derive.queue.filter (fun p => p.number != q.number)
              blends := s.derive.blends.map (Blend.without [q.number])
              waitingBlends := s.derive.waitingBlends.filter (Blend.startsWithout [q.number])
              lastEnding :=
                some { number := q.number, channel := q.channel, issueFrame := q.issueFrame, ending := e } }
          notices := notices } ∧
      ∀ c : Chan, u.channel c = (s.channel c).forgets q.number

/-- The select periods that carry no request taken (R165 to R168). -/
def isPeriod : Instr → Bool
  | .fetch _ _ => true
  | .fetchCutShort _ => true
  | .messageDropped _ _ => true
  | .messageCutShort _ => true
  | .selectAborted => true
  | .malformed _ => true
  | _ => false

/-- The commands that are reading words (R47). -/
def isReadingWord : Instr → Bool
  | .openWord _ _ => true
  | .zoneWord _ _ _ _ _ => true
  | .anchorWord _ _ _ _ _ => true
  | .closeWord => true
  | .unknownKindWord _ => true
  | _ => false

end Sys2Proof.Machine

/-! ### Ranges of the carried values -/

namespace Sys2Proof

/-- A value that is carried lies within a range. -/
def carriedWithin (lo hi : Nat) (v : Option Nat) : Prop := ∀ n, v = some n → lo ≤ n ∧ n ≤ hi

/-- The ranges of R27. -/
def ProfileFields.inRange (f : ProfileFields) : Prop :=
  carriedWithin 0 255 f.du ∧ carriedWithin 0 255 f.dv ∧ carriedWithin 0 127 f.dl ∧ carriedWithin 0 1 f.tagMode ∧
    carriedWithin 0 255 f.confidenceFloor ∧ carriedWithin 1 7 f.doubtLimit ∧ carriedWithin 0 127 f.learningReach ∧
    carriedWithin 0 8191 f.learningRadius

/-- The ranges of R66. -/
def ChannelFields.inRange (f : ChannelFields) : Prop :=
  carriedWithin 0 1 f.enabled ∧ carriedWithin 0 65535 f.zoneSet ∧ carriedWithin 0 255 f.glideLength ∧
    carriedWithin 1 16 f.pace ∧ carriedWithin 0 15 f.flapLimit ∧ carriedWithin 1 1024 f.flapWindow ∧
    carriedWithin 0 1 f.learn ∧ carriedWithin 0 3 f.learnClass ∧ carriedWithin 0 4080 f.learnWeight

/-- The ranges of R113. -/
def ClassFields.inRange (f : ClassFields) : Prop :=
  carriedWithin 1 4096 f.prescale ∧ carriedWithin 1 255 f.idleAt ∧ carriedWithin 1 255 f.dormantAt ∧
    carriedWithin 0 255 f.retireAt

/-- The ranges of a key (00_scope.md, 4.8). -/
def Key.inRange (k : Key) : Prop := k.u ≤ 4095 ∧ k.v ≤ 4095 ∧ k.level ≤ 127 ∧ k.tag ≤ 15

/-- The ranges of the parts of a body that are carried (00_scope.md, 4.8; R14). -/
def BodyParts.inRange (b : BodyParts) : Prop :=
  (∀ g, b.gains = some g → g.gR ≤ 16383 ∧ g.gG ≤ 16383 ∧ g.gB ≤ 16383) ∧
    (∀ m, b.matrix = some m →
      ∀ x ∈ [m.m11, m.m12, m.m13, m.m21, m.m22, m.m23, m.m31, m.m32, m.m33], -16384 ≤ x ∧ x ≤ 16383) ∧
    (∀ r, b.reference = some r → r.r ≤ 65535 ∧ r.g ≤ 65535 ∧ r.b ≤ 65535) ∧
    ∀ l, b.limits = some l → l.tolerance ≤ 4095 ∧ 1 ≤ l.streakLimit ∧ l.streakLimit ≤ 15

end Sys2Proof

/-! ### Invariants -/

namespace Sys2Proof.Machine

/-- A channel's winner, when present, is a slot whose state is LIVE (R79). -/
def State.winnersLive (s : State) : Prop :=
  ∀ (c : Chan) (i : Slot), (s.channel c).winner = some i → (s.cell i).state = .live

/-- SERVICE has an operation waiting exactly when the request in work is one that waits for its grant (R151). -/
def State.linkAgrees (s : State) : Prop := s.arbiter.service.isSome = true ↔ s.link.state = .working .operation

/-- A waiting close is for the current depth (R140). -/
def ServiceOp.closes (depth : Nat) : ServiceOp → Prop
  | .drop d => d = depth ∧ 1 ≤ d
  | .keep d => d = depth ∧ 1 ≤ d
  | _ => True

/-- An entry's stamp is within the depth, and its shadow's depth is above its stamp and within the depth (R9, R16,
R138). -/
def Entry.scoped (depth : Nat) (e : Entry) : Prop :=
  e.stamp ≤ depth ∧ ∀ sh, e.shadow = some sh → e.stamp < sh.depth ∧ sh.depth ≤ depth

/-- The scope depth is 0..3, no stamp, shadow depth or issue depth exceeds it, every shadow is above its entry's stamp,
and a waiting close is for the current depth (R138, R140, R142, R144). -/
def State.scopesHold (s : State) : Prop :=
  s.linkAgrees ∧ s.depth ≤ 3 ∧ (∀ op, s.arbiter.service = some op → op.closes s.depth) ∧
    (∀ i e, (s.cell i).entry = some e → e.scoped s.depth) ∧ ∀ q ∈ s.derive.queue, q.issueDepth ≤ s.depth

/-- The derivation queue holds no two requests of one channel or of one number, its numbers are 0..255, and a pending
derivation names a request in the queue (R89, R90, R106). -/
def State.derivationsHold (s : State) : Prop :=
  (s.derive.queue.map fun q => q.channel).Nodup ∧ (s.derive.queue.map fun q => q.number).Nodup ∧
    (∀ q ∈ s.derive.queue, q.number ≤ 255) ∧ s.derive.nextNumber ≤ 255 ∧
    ∀ (c : Chan) (n : Nat), (s.channel c).pendingDerivation = some n → ∃ q ∈ s.derive.queue, q.number = n

/-- AGING's waiting operation is the step the sweep's position names, and there is none between sweeps (R117). -/
def State.sweepHolds (s : State) : Prop := s.arbiter.aging = s.aging.sweep.map fun w => w.position

/-- A held descriptor's ranges and its two conditions (R112). -/
def ClassDescriptor.holds (d : ClassDescriptor) : Prop :=
  1 ≤ d.prescale ∧ d.prescale ≤ 4096 ∧ 1 ≤ d.idleAt ∧ d.idleAt ≤ d.dormantAt ∧ d.dormantAt ≤ 255 ∧
    d.retireAt ≤ 255 ∧ (d.retireAt = 0 ∨ d.dormantAt ≤ d.retireAt)

/-- The capacities of the Grade Port and its pull, the blender and the buffer (R82, R182, R98, R54), the range of the
pending ticks (R115), and the descriptors (R112). -/
def State.boundsHold (s : State) : Prop :=
  s.port.queue.length ≤ 8 ∧ s.port.delivering.length ≤ 3 ∧ s.derive.blends.length ≤ 4 ∧ s.path.anchors.length ≤ 4 ∧
    (∀ k : ClassNo, s.aging.pendingTicks[k] ≤ 255) ∧ ∀ k : ClassNo, (s.aging.classes[k] : ClassDescriptor).holds

/-- The open frame's number is the last accepted one, and its tag the recorded one (R50, R52). -/
def State.openFrameHolds (s : State) : Prop :=
  ∀ f, s.path.receiving = .opened f → s.path.lastAccepted = some f.number ∧ s.path.tag = some f.tag

/-- A coefficient is within its range (00_scope.md, 4.8). -/
def coefficientHolds (x : Int) : Prop := -16384 ≤ x ∧ x ≤ 16383

/-- Every value of a grade is within its range (00_scope.md, 4.8). -/
def Grade.holds (g : Grade) : Prop :=
  (0 ≤ g.gR ∧ g.gR ≤ 16383) ∧ (0 ≤ g.gG ∧ g.gG ≤ 16383) ∧ (0 ≤ g.gB ∧ g.gB ≤ 16383) ∧
    coefficientHolds g.m11 ∧ coefficientHolds g.m12 ∧ coefficientHolds g.m13 ∧ coefficientHolds g.m21 ∧
    coefficientHolds g.m22 ∧ coefficientHolds g.m23 ∧ coefficientHolds g.m31 ∧ coefficientHolds g.m32 ∧
    coefficientHolds g.m33

/-- The grade of a body, if it has one, is within its range. -/
def Body.holds : Body → Prop
  | .illuminant _ x => x.grade.holds
  | .anchor _ => True

/-- The grade of a supplied or shadowed body, if it has one, is within its range. -/
def BodyCopy.holds : BodyCopy → Prop
  | .illuminant _ g _ => g.holds
  | .anchor _ => True

/-- The grade a waiting operation carries, if any, is within its range. -/
def ServiceOp.holds : ServiceOp → Prop
  | .place _ n => n.body.holds
  | .amend _ c => ∀ g, c.grade = some g → g.holds
  | _ => True

/-- Every grade the part holds is within its range: in entries and shadows (R11), in the channels (R76), in results
(R99), in a waiting PLACE or AMEND, and in the records of the Grade Port. -/
def State.gradesHold (s : State) : Prop :=
  (∀ i e, (s.cell i).entry = some e → e.body.holds ∧ ∀ sh, e.shadow = some sh → sh.body.holds) ∧
    (∀ c : Chan, (s.channel c).target.holds ∧ (s.channel c).delivered.holds) ∧
    (∀ q ∈ s.derive.queue, ∀ g, q.result = some g → g.holds) ∧
    (∀ op, s.arbiter.service = some op → op.holds) ∧ ∀ r ∈ s.port.queue, r.grade.holds

end Sys2Proof.Machine
end

