-- ==== Sys2Proof/Certificates/Slice0/Obligations.lean ====
section
/-!
DEFINITION. The statements for the provers. Each conclusion `exec c s = .next …` says that the command completes, what
it does and, by the record it names, what it leaves unchanged.
-/

open Sys2Proof Sys2Proof.Machine

/-! ### The queue of commands, the lines and power-on -/

/-- Log entries 1 and 18: a step takes the command at the front of the queue and answers its effect on the part with the
queue's rest; on an empty queue the pull in progress delivers its next word, and with none in progress the part idles. -/
def Obligations.StepTakesFrontCommand : Prop :=
  (∀ (c : Instr) (rest : List Instr) (s : State),
      step { s with pending := c :: rest } = exec c { s with pending := rest }) ∧
    ∀ s : State, s.pending = [] →
      (s.port.delivering = [] → step s = .next s) ∧
        ∀ w l, s.port.delivering = w :: l →
          step s = .next { s with port := { s.port with delivering := l, out := s.port.out ++ [w] } }

/-- No rule of the spec stops the part: every command answers a next state, and leaves the queue as it stands (log
entries 1 and 23). -/
def Obligations.CommandsAnswerAndKeepQueue : Prop :=
  ∀ (c : Instr) (s : State), ∃ t, exec c s = .next t ∧ t.pending = s.pending

/-- R24, R64, R176: power-on and RESET return every block to its power-on values; releasing RESET and the delay after
it make the part ready; before it is ready, reading words are discarded without a cause and select periods are ignored,
the data output floating. The queue of commands and what is listed for its messages are no block's. Which lines POWER_ON
leaves is log entry 22's choice. -/
def Obligations.LinesReturnAndReadyThePart : Prop :=
  (∀ s : State,
    exec .powerOn s =
        .next
          { State.reset with
            lines := { resetAsserted := s.lines.resetAsserted, ready := false }
            pending := s.pending
            trailing := s.trailing } ∧
      exec .reset s =
        .next
          { State.reset with
            lines := { resetAsserted := true, ready := false }
            pending := s.pending
            trailing := s.trailing } ∧
      exec .resetRelease s = .next { s with lines := { s.lines with resetAsserted := false } } ∧
      (s.lines.resetAsserted = false → exec .partReady s = .next { s with lines := { s.lines with ready := true } }) ∧
      (s.lines.resetAsserted = true → exec .partReady s = .next s)) ∧
    ∀ (c : Instr) (s : State), s.settled = true → s.lines.ready = false →
      (isReadingWord c = true → exec c s = .next s) ∧
        (carriesMessage c = true →
          exec c s = .next { s with link := { s.link with out := [] }, trailing := s.trailing.tail }) ∧
        (isPeriod c = true → carriesMessage c = false →
          exec c s = .next { s with link := { s.link with out := [] } })

/-- The power-on values of every block: R24, R27, R29, R31, R44, R64, R66, R67, R84, R109, R111, R112, R115, R124, R138,
R165, R170. -/
def Obligations.PowerOnValuesOfEveryBlock : Prop :=
  (∀ i : Slot, State.reset.cell i = { generation := 0, entry := none }) ∧
    State.reset.nextFree = some 0 ∧ State.reset.lastFree = some 511 ∧
    State.reset.countOf .empty = 512 ∧ State.reset.countOf .live = 0 ∧ State.reset.countOf .held = 0 ∧
    State.reset.countOf .anchor = 0 ∧
    State.reset.arbiter = { rotation := .aging, frame := none, service := none, derive := none, aging := none } ∧
    (∀ p : Fin 2,
      State.reset.matching.profiles[p] =
        { du := 24, dv := 24, dl := 12, tagMode := .exact, confidenceFloor := 16, doubtLimit := 3
          learningReach := 24, learningRadius := 640 }) ∧
    State.reset.matching.frame = { selected := 0, staged := none } ∧
    State.reset.matching.service =
      { selected := 0, filter := { live := true, held := false, anchor := false }, cursor := 0, cursorStep := .none
        lastMatch := none, multiple := false, matchCount := 0, lastSeekKey := none } ∧
    State.reset.path.receiving = .idle ∧ State.reset.path.tag = none ∧
    (∀ z : Zone, State.reset.path.zones[z] = none) ∧
    State.reset.path.anchors = [] ∧ State.reset.path.closing = .free ∧ State.reset.path.lastAccepted = none ∧
    (∀ c : Chan,
      State.reset.channel c =
        { config :=
            { enabled := decide (c = 0), zoneSet := if c = 0 then 0xFFFF else 0, glideLength := 48, pace := 1
              flapLimit := 4, flapWindow := 120, learn := false, learnClass := 0, learnWeight := 64 }
          winner := none, target := Grade.unity, delivered := Grade.unity, glide := .steady, stepsRemaining := 0
          nextStep := 0, lock := .free, lockEnd := 0, switchCount := 0, windowEnd := none, pendingDerivation := none
          lastOutcome := none, heldOver := false }) ∧
    State.reset.port.queue = [] ∧ State.reset.port.delivering = [] ∧
    State.reset.derive =
      { queue := [], nextNumber := 0, blends := [], waitingBlends := [], lastEnding := none, reserve := 16
        evictionPermitted := true } ∧
    (State.reset.aging.classes[(0 : ClassNo)] : ClassDescriptor) =
      { prescale := 30, idleAt := 20, dormantAt := 120, retireAt := 0 } ∧
    (State.reset.aging.classes[(1 : ClassNo)] : ClassDescriptor) =
      { prescale := 60, idleAt := 10, dormantAt := 40, retireAt := 160 } ∧
    (State.reset.aging.classes[(2 : ClassNo)] : ClassDescriptor) =
      { prescale := 300, idleAt := 4, dormantAt := 12, retireAt := 48 } ∧
    (State.reset.aging.classes[(3 : ClassNo)] : ClassDescriptor) =
      { prescale := 15, idleAt := 8, dormantAt := 16, retireAt := 32 } ∧
    (∀ k : ClassNo, State.reset.aging.pendingTicks[k] = 0) ∧ State.reset.aging.sweep = none ∧
    State.reset.depth = 0 ∧ State.reset.link.state = .idle ∧
    (∀ i : Fin 13, (State.reset.notices.causes[i] : Notice) = { pending := false, detail := 0 }) ∧
    State.reset.notices.mask = BitVec.allOnes 13

/-! ### What comes about at once -/

/-- R57, R58, R61, R86, R98, R116 with log entry 3: the events that come about at once, each where its condition holds.
Catching up is SET_CHANNEL_PERFORM, FRAME_WORK_START, BLEND_START as often as a blend waits that the blender has room for,
and SWEEP_START, in this order; it leaves nothing due, changes nothing where nothing is due, and comes before every
command that is not itself such an event or a change of the lines. -/
def Obligations.DueEventsComeFirst : Prop :=
  (∀ (s : State) (noChannel noFrame noBlend noSweep : Prop),
    (noChannel ↔ ∀ c f, s.link.state = .working (.setChannel c f) → s.inWork c = true) →
      (noFrame ↔ ∀ f, s.path.closing ≠ .handed f) →
      (noBlend ↔ s.derive.waitingBlends = [] ∨ 4 ≤ s.derive.blends.length) →
      (noSweep ↔ s.aging.sweep ≠ none ∨ ∀ k : ClassNo, s.aging.pendingTicks[k] = 0) →
      (s.settled = true ↔ noChannel ∧ noFrame ∧ noBlend ∧ noSweep) ∧
        (noChannel → exec .setChannelPerform s = .next s) ∧
        (noChannel → noFrame → exec .frameWorkStart s = .next s) ∧
        (noBlend → exec .blendStart s = .next s) ∧ (noSweep → exec .sweepStart s = .next s)) ∧
    (∀ s : State, ∃ (performed : State) (started : Nat → State) (n : Nat),
      exec .setChannelPerform s = .next performed ∧ exec .frameWorkStart performed = .next (started 0) ∧
        (∀ k < n,
          (started k).derive.waitingBlends ≠ [] ∧ (started k).derive.blends.length < 4 ∧
            exec .blendStart (started k) = .next (started (k + 1))) ∧
        ((started n).derive.waitingBlends = [] ∨ 4 ≤ (started n).derive.blends.length) ∧
        exec .sweepStart (started n) = .next s.catchUp) ∧
    (∀ s : State, s.catchUp.settled = true) ∧ (∀ s : State, s.settled = true → s.catchUp = s) ∧
    ∀ (c : Instr) (s : State), comesAfterDueEvents c = true → exec c s = exec c s.catchUp

/-! ### The Table Arbiter -/

/-- R44: the operation granted is that of the first requester after the rotation position on the circle FRAME, SERVICE,
DERIVE, AGING that has one waiting; a lone requester is granted wherever the position stands; a grant moves the position to
its requester; with none waiting, none is granted and nothing changes. -/
def Obligations.ArbiterGrantsFirstAfterRotation : Prop :=
  ∀ (s : State) (waits : Requester → Prop) (circle : List Requester),
    (waits .frame ↔ s.arbiter.frame ≠ none) → (waits .service ↔ s.arbiter.service ≠ none) →
      (waits .derive ↔ s.arbiter.derive ≠ none) → (waits .aging ↔ s.arbiter.aging ≠ none) →
      circle =
          (match s.arbiter.rotation with
            | .frame => [.service, .derive, .aging, .frame]
            | .service => [.derive, .aging, .frame, .service]
            | .derive => [.aging, .frame, .service, .derive]
            | .aging => [.frame, .service, .derive, .aging]) →
      (∀ r, s.arbiter.next = some r ↔
          ∃ before after, circle = before ++ r :: after ∧ waits r ∧ ∀ q ∈ before, ¬waits q) ∧
        (∀ r, waits r → (∀ q, waits q → q = r) → s.arbiter.next = some r) ∧
        (s.arbiter.next = none ↔ ∀ r, ¬waits r) ∧
        s.frameGrant = (if s.arbiter.next = some .frame then s.arbiter.frame else none) ∧
        s.serviceGrant = (if s.arbiter.next = some .service then s.arbiter.service else none) ∧
        s.deriveGrant = (if s.arbiter.next = some .derive then s.arbiter.derive else none) ∧
        s.agingGrant = (if s.arbiter.next = some .aging then s.arbiter.aging else none) ∧
        s.grantFrame.arbiter = { s.arbiter with rotation := .frame, frame := none } ∧
        s.grantService.arbiter = { s.arbiter with rotation := .service, service := none } ∧
        s.grantDerive.arbiter = { s.arbiter with rotation := .derive, derive := none } ∧
        s.grantAging.arbiter = { s.arbiter with rotation := .aging, aging := none } ∧
        (s.settled = true → (∀ r, ¬waits r) →
          ∀ c ∈ [Instr.frameMatch, .anchorCheck, .search, .install, .sweepStep, .placeGrant, .amendGrant, .retireGrant,
              .setStateGrant, .pinGrant, .unpinGrant, .clearCountsGrant, .readEntryGrant, .seekGrant, .seekNextGrant,
              .dropWalk, .keepWalk, .restartWalk, .clearTableWalk],
            exec c s = .next s)

/-! ### Reading words -/

/-- R49, R50, R51, R114: an open word is refused for overrun, else refused for order, else accepted with the whole of
R50. -/
def Obligations.OpenWordIsJudged : Prop :=
  ∀ (number : BitVec 32) (tag : BitVec 4) (s : State), s.reads = true →
    (∀ w f, s.path.closing = .busy w (some f) →
        exec (.openWord number tag) s =
          .next
            { s with
              path := { s.path with receiving := .discarding }
              notices := s.notices.raised .frameOverrun number.toNat }) ∧
      ((∀ w f, s.path.closing ≠ .busy w (some f)) →
        (∀ m, s.path.lastAccepted = some m → number.toNat ≤ m →
            exec (.openWord number tag) s =
              .next
                { s with
                  path := { s.path with receiving := .discarding }
                  notices := s.notices.raised .frameOrder number.toNat }) ∧
          ((∀ m, s.path.lastAccepted = some m → m < number.toNat) →
            ∃ t, exec (.openWord number tag) s = .next t ∧
              t =
                { s with
                  path :=
                    { s.path with
                      receiving :=
                        .opened
                          { number := number.toNat, tag := tag.toNat
                            release := s.matching.frame.staged.isSome }
                      tag := some tag.toNat
                      zones := Vector.replicate 16 none
                      anchors := []
                      lastAccepted := some number.toNat }
                  matching :=
                    { s.matching with
                      frame :=
                        { selected := s.matching.frame.staged.getD s.matching.frame.selected, staged := none } }
                  aging := { s.aging with pendingTicks := t.aging.pendingTicks } } ∧
              ∀ k : ClassNo,
                t.aging.pendingTicks[k] =
                  match s.path.lastAccepted with
                  | none => s.aging.pendingTicks[k]
                  | some m =>
                    min
                      (s.aging.pendingTicks[k] +
                        (number.toNat / (s.aging.classes[k] : ClassDescriptor).prescale -
                          m / (s.aging.classes[k] : ClassDescriptor).prescale))
                      255))

/-- R53, R48: a ZONE word fills its zone's slot in an open frame, is READING_STRAY in IDLE, and is discarded without a
cause in DISCARDING; a word of no known kind raises READING_STRAY with the last accepted frame number, or 0, and changes
nothing else, whatever the receiving state. -/
def Obligations.ZoneAndUnknownKindWords : Prop :=
  (∀ (zone : Zone) (u v : BitVec 12) (level : BitVec 7) (confidence : BitVec 8) (s : State), s.reads = true →
    (∀ f, s.path.receiving = .opened f →
        exec (.zoneWord zone u v level confidence) s =
          .next
            { s with
              path :=
                { s.path with
                  zones :=
                    s.path.zones.set zone
                      (some { u := u.toNat, v := v.toNat, level := level.toNat, confidence := confidence.toNat }) } }) ∧
      (s.path.receiving = .idle →
        exec (.zoneWord zone u v level confidence) s =
          .next { s with notices := s.notices.raised .readingStray (s.path.lastAccepted.getD 0) }) ∧
      (s.path.receiving = .discarding → exec (.zoneWord zone u v level confidence) s = .next s)) ∧
    ∀ (kind : BitVec 4) (s : State), s.reads = true →
      exec (.unknownKindWord kind) s =
        .next { s with notices := s.notices.raised .readingStray (s.path.lastAccepted.getD 0) }

/-- R54, R55, R57: an ANCHOR word is kept while the list holds fewer than four, and is ANCHOR_OVERFLOW after that; a
CLOSE word hands the open frame to the closing side; both are READING_STRAY in IDLE, and in DISCARDING the one is
discarded and the other returns to IDLE. -/
def Obligations.AnchorAndCloseWords : Prop :=
  (∀ (slot : Slot) (channel : Chan) (r g b : BitVec 16) (s : State), s.reads = true →
    (∀ f, s.path.receiving = .opened f → s.path.anchors.length < 4 →
        exec (.anchorWord slot channel r g b) s =
          .next
            { s with
              path :=
                { s.path with
                  anchors :=
                    s.path.anchors ++
                      [{ slot := slot, channel := channel, r := r.toNat, g := g.toNat, b := b.toNat }] } }) ∧
      (∀ f, s.path.receiving = .opened f → 4 ≤ s.path.anchors.length →
        exec (.anchorWord slot channel r g b) s =
          .next { s with notices := s.notices.raised .anchorOverflow f.number }) ∧
      (s.path.receiving = .idle →
        exec (.anchorWord slot channel r g b) s =
          .next { s with notices := s.notices.raised .readingStray (s.path.lastAccepted.getD 0) }) ∧
      (s.path.receiving = .discarding → exec (.anchorWord slot channel r g b) s = .next s)) ∧
    ∀ s : State, s.reads = true →
      (∀ f, s.path.receiving = .opened f → s.path.closing = .free →
          exec .closeWord s =
            .next
              { s with
                path :=
                  { s.path with
                    receiving := .idle
                    closing :=
                      .handed
                        { number := f.number, tag := f.tag, zones := s.path.zones, anchors := s.path.anchors
                          release := f.release } } }) ∧
        (∀ f w, s.path.receiving = .opened f → s.path.closing = .busy w none →
          exec .closeWord s =
            .next
              { s with
                path :=
                  { s.path with
                    receiving := .idle
                    closing :=
                      .busy w
                        (some
                          { number := f.number, tag := f.tag, zones := s.path.zones, anchors := s.path.anchors
                            release := f.release }) } }) ∧
        (s.path.receiving = .idle →
          exec .closeWord s =
            .next { s with notices := s.notices.raised .readingStray (s.path.lastAccepted.getD 0) }) ∧
        (s.path.receiving = .discarding →
          exec .closeWord s = .next { s with path := { s.path with receiving := .idle } })

/-! ### The work of a frame -/

/-- R58, R60, R61: the start of a handed-over frame takes the channel set, the confidence floor and the channel readings
together; then the parts run from channel 0. With no channel enabled and no anchor reading the frame completes on the
event that starts it. A waiting SET CHANNEL that is due comes before it (R86). -/
def Obligations.FrameWorkStarts : Prop :=
  ∀ (f : ClosedFrame) (s : State), s.path.closing = .handed f →
    (s.channelDue = true → exec .frameWorkStart s = exec .frameWorkStart s.performChannel) ∧
      (s.channelDue = false →
        (∃ w : FrameWork,
          exec .frameWorkStart s = .next (s.runParts w none [0, 1, 2, 3]) ∧ w.frame = f ∧ w.toCheck = [] ∧
            ∀ c : Chan,
              w.inputs[c] =
                if (s.channel c).config.enabled then
                  formReading (s.channel c).config.zoneSet s.frameProfile.confidenceFloor f
                else .outside) ∧
          ((∀ c : Chan, (s.channel c).config.enabled = false) → f.anchors = [] →
            exec .frameWorkStart s = .next { s with path := { s.path with closing := .free } }))

/-- R60, R61, R69, R70: one part after another. A channel with a reading waits for its MATCH, in the mode of R70; a
channel that is DARK or outside the channel set goes to its anchor readings, the kept ones that name it in order of
arrival; with no anchor reading left a part ends and
the next channel's begins; after the last part the frame is complete, and a pending frame is the next to start. -/
def Obligations.PartsRunInChannelOrder : Prop :=
  ∀ (w : FrameWork) (waiting : Option ClosedFrame) (s : State),
    s.runParts w waiting [] =
        { s with
          path :=
            { s.path with
              closing := match waiting with
                | some f => .handed f
                | none => .free } } ∧
      (∀ c : Chan, w.frame.anchorsFor c = w.frame.anchors.filter fun a => decide (a.channel = c)) ∧
      s.continuePart w waiting 0 [] = s.runParts w waiting [1, 2, 3] ∧
      s.continuePart w waiting 1 [] = s.runParts w waiting [2, 3] ∧
      s.continuePart w waiting 2 [] = s.runParts w waiting [3] ∧
      s.continuePart w waiting 3 [] = s.runParts w waiting [] ∧
      ∀ (c : Chan) (l : List Chan),
        (∀ r, w.inputs[c] = .reading r →
            s.runParts w waiting (c :: l) =
              { s with
                channels := s.channels.set c ((s.channel c).beginFrame w.frame.number)
                arbiter :=
                  { s.arbiter with
                    frame :=
                      some
                        (.matching c r.key
                          (if ((s.channel c).beginFrame w.frame.number).lock = .locked then .locked
                           else if (s.channel c).winner ≠ none ∧ w.frame.release = false then .hold
                           else .openMode)) }
                path := { s.path with closing := .busy { w with channel := c, toCheck := [] } waiting } }) ∧
          (w.inputs[c] = .outside →
            (w.frame.anchorsFor c = [] → s.runParts w waiting (c :: l) = s.runParts w waiting l) ∧
              ∀ a rest, w.frame.anchorsFor c = a :: rest →
                s.runParts w waiting (c :: l) = s.continuePart w waiting c (a :: rest)) ∧
          (w.inputs[c] = .dark →
            ∃ u : State,
              u =
                  State.deliver
                    { s with
                      channels :=
                        s.channels.set c
                          { (s.channel c).beginFrame w.frame.number with lastOutcome := some .dark } }
                    w.frame.number c .dark ∧
                (w.frame.anchorsFor c = [] → s.runParts w waiting (c :: l) = u.runParts w waiting l) ∧
                ∀ a rest, w.frame.anchorsFor c = a :: rest →
                  s.runParts w waiting (c :: l) = u.continuePart w waiting c (a :: rest)) ∧
          ∀ a rest,
            s.continuePart w waiting c (a :: rest) =
              { s with
                arbiter := { s.arbiter with frame := some (.anchor a w.frame.number w.frame.tag) }
                path := { s.path with closing := .busy { w with channel := c, toCheck := rest } waiting } }

/-- R59: the channel reading is formed from the zones of the zone set with a reading of at least the floor; W is the sum
of their confidences, and u, v and level the weighted means rounded down; W 0 is DARK. -/
def Obligations.ChannelReadingIsFormed : Prop :=
  ∀ (zoneSet : BitVec 16) (floor : Nat) (f : ClosedFrame) (conf : Zone → Nat) (reading : Zone → ZoneReading),
    (∀ z : Zone,
        match (f.zones[z] : Option ZoneReading) with
        | some r =>
          reading z = r ∧
            conf z = if zoneSet.getLsbD z.val = true ∧ floor ≤ r.confidence then r.confidence else 0
        | none => conf z = 0) →
      ((∑ z, conf z) = 0 → formReading zoneSet floor f = .dark) ∧
        ((∑ z, conf z) ≠ 0 →
          formReading zoneSet floor f =
            .reading
              { key :=
                  { u := (∑ z, conf z * (reading z).u) / ∑ z, conf z
                    v := (∑ z, conf z * (reading z).v) / ∑ z, conf z
                    level := (∑ z, conf z * (reading z).level) / ∑ z, conf z
                    tag := f.tag }
                weight := ∑ z, conf z })

/-- R30, R35, R36: an OPEN match gives the lowest matching LIVE slot that is ACTIVE or IDLE, else the lowest that is
DORMANT, else a miss, whatever the winner; a HOLD match gives the incumbent while it is LIVE and matches, else the OPEN
result. R37: a LOCKED match tests the incumbent alone. R34: in every mode the match returns beside its result the number
of matching LIVE entries of both tiers, and whether there are two or more. The window compare is R26's box. -/
def Obligations.FrameMatchResultByMode : Prop :=
  (∀ (p : Profile) (k e : Key),
    (p.admits k e = true ↔
        ((k.u : Int) - e.u).natAbs ≤ p.du ∧ ((k.v : Int) - e.v).natAbs ≤ p.dv ∧
          ((k.level : Int) - e.level).natAbs ≤ p.dl ∧ (k.tag = e.tag ∨ p.tagMode = .any)) ∧
      p.admits k e = p.admits e k) ∧
  ∀ (s : State) (k : Key) (fits : Slot → Prop) (dormant : Slot → Prop),
    (∀ i, fits i ↔ ∃ e x, (s.cell i).holdsLive e x ∧ s.frameProfile.admits k e.key = true) →
      (∀ i, dormant i ↔ ∃ e x, (s.cell i).holdsLive e x ∧ x.vigour = .dormant) →
      (∀ w, s.frameResult k .openMode w = none ↔ ∀ i, ¬fits i) ∧
        (∀ w i,
          s.frameResult k .openMode w = some i ↔
            fits i ∧ ∀ j, fits j → j ≠ i → (¬dormant i ∧ dormant j) ∨ ((dormant i ↔ dormant j) ∧ i < j)) ∧
        (∀ i, fits i → s.frameResult k .hold (some i) = some i ∧ s.frameResult k .locked (some i) = some i) ∧
        (∀ i, ¬fits i →
          s.frameResult k .hold (some i) = s.frameResult k .openMode none ∧
            s.frameResult k .locked (some i) = none) ∧
        s.frameResult k .hold none = s.frameResult k .openMode none ∧ s.frameResult k .locked none = none ∧
        ∃ l : List Slot, l.Nodup ∧ (∀ i, i ∈ l ↔ fits i) ∧
          ∀ mode w,
            s.frameMatch k mode w =
              { result := s.frameResult k mode w, count := l.length, multiple := decide (2 ≤ l.length) }

/-- R38, R71, R74: a MATCH that results in a slot touches its entry, counts the takeover and the switch, makes the slot
the winner, settles the lock and the target, and goes on with the glide, the record and the part's anchor readings. -/
def Obligations.FrameMatchFindsEntry : Prop :=
  ∀ (s : State) (c : Chan) (k : Key) (mode : MatchMode) (w : FrameWork) (waiting : Option ClosedFrame) (i : Slot)
    (e : Entry) (x : Illuminant),
    s.grantsFrame (.matching c k mode) w waiting → s.frameResult k mode (s.channel c).winner = some i →
      (s.cell i).holdsLive e x →
      ∃ (switched flap : Bool) (ch : Channel),
        (switched = true ↔ ∃ j, (s.channel c).winner = some j ∧ j ≠ i) ∧
          ch =
            { s.channel c with
              winner := some i
              switchCount :=
                if switched then min ((s.channel c).switchCount + 1) 15 else (s.channel c).switchCount } ∧
          (flap = true ↔
            switched = true ∧ ch.config.flapLimit ≠ 0 ∧ ch.lock = .free ∧ ch.config.flapLimit ≤ ch.switchCount) ∧
          exec .frameMatch s =
            .next
              (State.continuePart
                (State.deliver
                  { s with
                    table :=
                      s.table.set i
                        { generation := (s.cell i).generation
                          entry :=
                            some
                              { e with
                                body :=
                                  .illuminant .live
                                    { x with
                                      touched := true, idleTicks := 0, vigour := .active
                                      takeovers :=
                                        if (s.channel c).winner = some i then x.takeovers
                                        else min (x.takeovers + 1) 65535 } } }
                    channels :=
                      s.channels.set c
                        (Channel.retarget w.frame.number x.grade
                          { ch with
                            heldOver := false, lastOutcome := some .matched, pendingDerivation := none
                            lock := if flap then .locked else ch.lock
                            lockEnd := if flap then ch.windowEnd.getD ch.lockEnd else ch.lockEnd })
                    arbiter := s.arbiter.servedFrame
                    notices := if flap then s.notices.raised .flap c.val else s.notices }
                  w.frame.number c .matched)
                w waiting c (w.frame.anchorsFor c))

/-- R72: a MATCH that misses clears the winner, holds the target over and sets the outcome; the miss is considered for
learning before the record is formed. -/
def Obligations.FrameMatchMisses : Prop :=
  ∀ (s : State) (c : Chan) (k : Key) (mode : MatchMode) (w : FrameWork) (waiting : Option ClosedFrame)
    (r : ChannelReading),
    s.grantsFrame (.matching c k mode) w waiting → s.frameResult k mode (s.channel c).winner = none →
      w.inputs[c] = .reading r →
      exec .frameMatch s =
        .next
          (State.continuePart
            (State.deliver
              (State.considerMiss
                { s with
                  channels :=
                    s.channels.set c
                      { s.channel c with winner := none, heldOver := true, lastOutcome := some .miss }
                  arbiter := s.arbiter.servedFrame }
                c r w.frame.number)
              w.frame.number c .miss)
            w waiting c (w.frame.anchorsFor c))

/-- R92, R93, R94, R90: a miss that fails R92 does nothing; one that a queued request coalesces joins the oldest such
request; one whose channel has a request of its own in the queue is deferred; any other issues a request, which takes the
first number from the next number on, 255 giving 0, that no queued request holds. -/
def Obligations.MissIsConsidered : Prop :=
  ∀ (s : State) (c : Chan) (r : ChannelReading) (n : Nat),
    ((s.channel c).config.learn = false ∨ r.weight < (s.channel c).config.learnWeight ∨
          (s.channel c).pendingDerivation ≠ none →
        s.considerMiss c r n = s) ∧
      ((s.channel c).config.learn = true → (s.channel c).config.learnWeight ≤ r.weight →
        (s.channel c).pendingDerivation = none →
        (∀ before q after, s.derive.queue = before ++ q :: after →
            (∀ p ∈ before, ¬(p.key.tag = r.key.tag ∧ s.frameProfile.admits r.key p.key = true)) →
            q.key.tag = r.key.tag → s.frameProfile.admits r.key q.key = true →
            s.considerMiss c r n =
              { s with
                channels := s.channels.set c { s.channel c with pendingDerivation := some q.number } }) ∧
          ((∀ p ∈ s.derive.queue, ¬(p.key.tag = r.key.tag ∧ s.frameProfile.admits r.key p.key = true)) →
            ((∃ p ∈ s.derive.queue, p.channel = c) →
                s.considerMiss c r n = { s with notices := s.notices.raised .learnDeferred c.val }) ∧
              ((∀ p ∈ s.derive.queue, p.channel ≠ c) →
                ∃ number : Nat,
                  ((∀ p ∈ s.derive.queue, p.number ≠ s.derive.nextNumber) → number = s.derive.nextNumber) ∧
                    (s.derive.queue.length ≤ 4 → s.derive.nextNumber ≤ 255 →
                      ∃ k : Nat, number = (s.derive.nextNumber + k) % 256 ∧
                        (∀ p ∈ s.derive.queue, p.number ≠ number) ∧
                        ∀ j < k, ∃ p ∈ s.derive.queue, p.number = (s.derive.nextNumber + j) % 256) ∧
                    s.considerMiss c r n =
                      State.chooseDerive
                        { s with
                          channels := s.channels.set c { s.channel c with pendingDerivation := some number }
                          derive :=
                            { s.derive with
                              queue :=
                                s.derive.queue ++
                                  [{ number := number, channel := c, key := r.key, weight := r.weight
                                     cls := (s.channel c).config.learnClass, issueDepth := s.depth, issueFrame := n
                                     stage := .waiting, rerunUsed := false, parents := none, result := none }]
                              nextNumber := (number + 1) % 256 } })))

/-- R95: what the Derivation Unit submits when it is free. -/
def Obligations.DerivationUnitChooses : Prop :=
  ∀ s : State,
    (∀ op, s.arbiter.derive = some op → s.chooseDerive = s) ∧
      (s.arbiter.derive = none →
        (s.derive.queue = [] → s.chooseDerive = s) ∧
          (∀ q l, s.derive.queue = q :: l → q.stage = .ready →
            s.chooseDerive = { s with arbiter := { s.arbiter with derive := some (.install q.number) } }) ∧
          (∀ q l, s.derive.queue = q :: l → q.stage ≠ .ready →
            ((∀ p ∈ q :: l, p.stage ≠ .waiting) → s.chooseDerive = s) ∧
              ∀ before p after, q :: l = before ++ p :: after → (∀ b ∈ before, b.stage ≠ .waiting) →
                p.stage = .waiting → (∀ b ∈ before ++ after, b.number ≠ p.number) →
                s.chooseDerive =
                  { s with
                    derive := { s.derive with queue := before ++ { p with stage := .searching } :: after }
                    arbiter := { s.arbiter with derive := some (.search p.number) } }))

/-! ### Anchors and doubt -/

/-- R127, R128, R130, R131: the check of a reading ends bad, NONE, PASS or DEFERRED, each with what its rule writes and
nothing else; then the part goes on. -/
def Obligations.AnchorCheckEndsWithoutFailing : Prop :=
  ∀ (s : State) (r : AnchorReading) (n tag : Nat) (w : FrameWork) (waiting : Option ClosedFrame),
    s.grantsFrame (.anchor r n tag) w waiting →
      ((s.cell r.slot).state ≠ .anchor ∨ w.inputs[r.channel] = .outside →
          exec .anchorCheck s =
            .next
              (State.continuePart
                { s with
                  arbiter := s.arbiter.servedFrame
                  notices := s.notices.raised .anchorBad r.slot.val }
                w waiting r.channel w.toCheck)) ∧
        ∀ e a, (s.cell r.slot).entry = some e → e.body = .anchor a → w.inputs[r.channel] ≠ .outside →
          ∀ written : Nat → AnchorOutcome → State,
            (∀ streak outcome,
                written streak outcome =
                  { s with
                    arbiter := s.arbiter.servedFrame
                    table :=
                      s.table.set r.slot
                        { generation := (s.cell r.slot).generation
                          entry :=
                            some
                              { e with
                                body :=
                                  .anchor { supplied := a.supplied, failStreak := streak, lastOutcome := outcome } } } }) →
              (e.key.tag ≠ tag →
                  exec .anchorCheck s =
                    .next ((written a.failStreak .none).continuePart w waiting r.channel w.toCheck)) ∧
                (e.key.tag = tag → a.supplied.passes (s.channel r.channel).delivered r = true →
                  exec .anchorCheck s = .next ((written 0 .pass).continuePart w waiting r.channel w.toCheck)) ∧
                (e.key.tag = tag → a.supplied.passes (s.channel r.channel).delivered r = false →
                  (s.channel r.channel).glide = .gliding →
                  exec .anchorCheck s =
                    .next ((written a.failStreak .deferred).continuePart w waiting r.channel w.toCheck))

/-- R132, R133: a failure on a STEADY channel is FAIL and counts; at the streak limit it is a drift, which raises DRIFT
and charges doubt against the channel's winner, and at the doubt limit moves that entry to HELD. -/
def Obligations.AnchorFailureCountsAndDrifts : Prop :=
  ∀ (s : State) (r : AnchorReading) (n tag : Nat) (w : FrameWork) (waiting : Option ClosedFrame) (e : Entry)
    (a : AnchorBody),
    s.grantsFrame (.anchor r n tag) w waiting → (s.cell r.slot).entry = some e → e.body = .anchor a →
      w.inputs[r.channel] ≠ .outside → e.key.tag = tag →
      a.supplied.passes (s.channel r.channel).delivered r = false → (s.channel r.channel).glide = .steady →
      ∀ written : Nat → State,
        (∀ streak,
            written streak =
              { s with
                arbiter := s.arbiter.servedFrame
                table :=
                  s.table.set r.slot
                    { generation := (s.cell r.slot).generation
                      entry :=
                        some
                          { e with
                            body := .anchor { supplied := a.supplied, failStreak := streak, lastOutcome := .fail } } } }) →
          (a.failStreak + 1 ≠ a.supplied.limits.streakLimit →
              exec .anchorCheck s =
                .next ((written (a.failStreak + 1)).continuePart w waiting r.channel w.toCheck)) ∧
            (a.failStreak + 1 = a.supplied.limits.streakLimit → (s.channel r.channel).winner = none →
              exec .anchorCheck s =
                .next
                  (State.continuePart { written 0 with notices := s.notices.raised .drift r.slot.val } w waiting
                    r.channel w.toCheck)) ∧
            ∀ i f x, a.failStreak + 1 = a.supplied.limits.streakLimit → (s.channel r.channel).winner = some i →
              (s.cell i).holdsLive f x →
              (min (x.doubt + 1) 7 < s.frameProfile.doubtLimit →
                  exec .anchorCheck s =
                    .next
                      (State.continuePart
                        { written 0 with
                          notices := s.notices.raised .drift r.slot.val
                          table :=
                            (written 0).table.set i
                              { generation := (s.cell i).generation
                                entry :=
                                  some { f with body := .illuminant .live { x with doubt := min (x.doubt + 1) 7 } } } }
                        w waiting r.channel w.toCheck)) ∧
                (s.frameProfile.doubtLimit ≤ min (x.doubt + 1) 7 →
                  ∃ u : State,
                    exec .anchorCheck s = .next (u.continuePart w waiting r.channel w.toCheck) ∧
                      u =
                        { written 0 with
                          notices := (s.notices.raised .drift r.slot.val).raised .entryHeld i.val
                          table :=
                            (written 0).table.set i
                              { generation := nextGeneration (s.cell i).generation
                                entry :=
                                  some { f with body := .illuminant .held { x with doubt := min (x.doubt + 1) 7 } } }
                          channels := u.channels } ∧
                      ∀ c : Chan, u.channel c = (s.channel c).without i)

/-- R129, R130: the gains, rounded down and clamped, then the matrix, rounded toward zero and clamped; a reading passes
when each corrected component lies within the tolerance of its reference. -/
def Obligations.AnchorColourIsCorrectedAndCompared : Prop :=
  ∀ (a : Supplied) (m : Grade) (r : AnchorReading) (clamped : Int → Int) (sr sg sb : Int),
    (∀ x, clamped x = max 0 (min 65535 x)) → sr = clamped (m.gR * r.r / 4096) → sg = clamped (m.gG * r.g / 4096) →
      sb = clamped (m.gB * r.b / 4096) →
      (a.passes m r = true ↔
        |clamped ((m.m11 * sr + m.m12 * sg + m.m13 * sb).tdiv 4096) - a.reference.r| ≤ a.limits.tolerance ∧
          |clamped ((m.m21 * sr + m.m22 * sg + m.m23 * sb).tdiv 4096) - a.reference.g| ≤ a.limits.tolerance ∧
          |clamped ((m.m31 * sr + m.m32 * sg + m.m33 * sb).tdiv 4096) - a.reference.b| ≤ a.limits.tolerance)

/-! ### Channels, glides and the Grade Port -/

/-- R69: the start of a channel's frame work brings the flap window and the lock up to the frame; the window end stays on
its grid. -/
def Obligations.FlapWindowRollsOnItsGrid : Prop :=
  ∀ (n : Nat) (ch : Channel), 1 ≤ ch.config.flapWindow →
    (ch.windowEnd = none →
        (ch.beginFrame n).windowEnd = some (n + ch.config.flapWindow) ∧ (ch.beginFrame n).switchCount = 0) ∧
      (∀ e, ch.windowEnd = some e → n < e →
        (ch.beginFrame n).windowEnd = some e ∧ (ch.beginFrame n).switchCount = ch.switchCount) ∧
      (∀ e, ch.windowEnd = some e → e ≤ n →
        (ch.beginFrame n).switchCount = 0 ∧
          ∃ k, (ch.beginFrame n).windowEnd = some (e + k * ch.config.flapWindow) ∧
            n < e + k * ch.config.flapWindow ∧ e + k * ch.config.flapWindow ≤ n + ch.config.flapWindow) ∧
      ((ch.beginFrame n).lock = .locked ↔ ch.lock = .locked ∧ n < ch.lockEnd) ∧
      ch.beginFrame n =
        { ch with
          windowEnd := (ch.beginFrame n).windowEnd
          switchCount := (ch.beginFrame n).switchCount
          lock := (ch.beginFrame n).lock }

/-- R75, R76, R77: a changed target restarts the glide, or is delivered at once when the glide length is 0; an equal one
changes nothing; a step is taken when its deadline is reached, and then the others that are owed; the last owed step lands
on the target; and every delivered value stays between where it stood and the target. -/
def Obligations.GlideMovesTowardTarget : Prop :=
  ∀ (n : Nat) (ch : Channel),
    ch.retarget n ch.target = ch ∧
      (∀ g, g ≠ ch.target → ch.config.glideLength = 0 →
        ch.retarget n g = { ch with target := g, delivered := g, stepsRemaining := 0, glide := .steady }) ∧
      (∀ g, g ≠ ch.target → ch.config.glideLength ≠ 0 →
        ch.retarget n g =
          { ch with
            target := g, stepsRemaining := ch.config.glideLength, nextStep := n + ch.config.pace
            glide := .gliding }) ∧
      (ch.glide = .steady → ch.advanceGlide n = ch) ∧
      (ch.glide = .gliding → 1 ≤ ch.stepsRemaining → n < ch.nextStep → ch.advanceGlide n = ch) ∧
      (∀ r, ch.glide = .gliding → ch.stepsRemaining = r + 2 → ch.nextStep ≤ n → n < ch.nextStep + ch.config.pace →
        ch.advanceGlide n =
          { ch with
            stepsRemaining := r + 1
            nextStep := ch.nextStep + ch.config.pace
            delivered := Grade.zip (fun d t => d + (t - d).tdiv (r + 2)) ch.delivered ch.target }) ∧
      (∀ r, ch.glide = .gliding → ch.stepsRemaining = r + 2 → ch.nextStep ≤ n →
        ch.advanceGlide n =
          Channel.advanceGlide n
            { ch with
              stepsRemaining := r + 1
              nextStep := ch.nextStep + ch.config.pace
              delivered := Grade.zip (fun d t => d + (t - d).tdiv (r + 2)) ch.delivered ch.target }) ∧
      (ch.glide = .gliding → ch.nextStep + ch.config.pace * (ch.stepsRemaining - 1) ≤ n →
        ch.advanceGlide n =
          { ch with
            stepsRemaining := 0
            nextStep := ch.nextStep + ch.config.pace * ch.stepsRemaining
            delivered := ch.target
            glide := .steady }) ∧
      ∀ v ∈ [Grade.gR, Grade.gG, Grade.gB, Grade.m11, Grade.m12, Grade.m13, Grade.m21, Grade.m22, Grade.m23,
          Grade.m31, Grade.m32, Grade.m33],
        ch.glide = .gliding →
          min (v ch.delivered) (v ch.target) ≤ v (ch.advanceGlide n).delivered ∧
            v (ch.advanceGlide n).delivered ≤ max (v ch.delivered) (v ch.target)

/-- R76, R81, R82, R83: the end of a channel's work takes its glide steps and hands over its record; a full queue first
gives up the oldest record of the channel, or the oldest of all, and raises GRADE_OVERRUN. A pull takes the oldest record
and delivers its first word, with the rest still to come, or delivers the empty indication (R182); a record still being
delivered is delivered whole before it (log entry 18). -/
def Obligations.GradePortQueuesRecords : Prop :=
  (∀ (s : State) (n : Nat) (c : Chan) (outcome : ChannelOutcome) (ch : Channel) (r : GradeRecord),
    ch = (s.channel c).advanceGlide n →
      r =
        { number := n, channel := c, outcome := outcome, winner := ch.winner
          gliding := decide (ch.glide = .gliding), locked := decide (ch.lock = .locked)
          learning := ch.pendingDerivation.isSome, heldOver := ch.heldOver, grade := ch.delivered } →
      (s.port.queue.length < 8 →
          s.deliver n c outcome =
            { s with
              channels := s.channels.set c ch
              port := { s.port with queue := s.port.queue ++ [r] } }) ∧
        (8 ≤ s.port.queue.length →
          (∀ before q after, s.port.queue = before ++ q :: after → (∀ b ∈ before, b.channel ≠ c) → q.channel = c →
              s.deliver n c outcome =
                { s with
                  channels := s.channels.set c ch
                  port := { s.port with queue := before ++ after ++ [r] }
                  notices := s.notices.raised .gradeOverrun c.val }) ∧
            ((∀ b ∈ s.port.queue, b.channel ≠ c) →
              s.deliver n c outcome =
                { s with
                  channels := s.channels.set c ch
                  port := { s.port with queue := s.port.queue.tail ++ [r] }
                  notices := s.notices.raised .gradeOverrun c.val }))) ∧
    ∀ s : State, s.settled = true →
      (∀ r l w rest, s.port.queue = r :: l → r.words = w :: rest →
          exec .gradePortPull s =
            .next
              { s with
                port := { queue := l, delivering := rest, out := s.port.out ++ s.port.delivering ++ [w] } }) ∧
        (s.port.queue = [] →
          exec .gradePortPull s =
            .next { s with port := { queue := [], delivering := [], out := s.port.out ++ s.port.delivering ++ [0] } })

/-- R182: a record is a header and three value words, each field in its bits; the ranges are those of the record's own
fields. -/
def Obligations.RecordWordsCarryTheirFields : Prop :=
  ∀ r : GradeRecord, r.number < 4294967296 → r.grade.holds →
    ∃ header first second third : Word, r.words = [header, first, second, third] ∧
      ((header.extractLsb' 60 4).toNat = 1 ∧ (header.extractLsb' 50 10).toNat = 0 ∧
        header.getLsbD 49 = r.heldOver ∧ header.getLsbD 48 = r.learning ∧ header.getLsbD 47 = r.locked ∧
        header.getLsbD 46 = r.gliding ∧
        (r.winner = none → header.getLsbD 36 = false ∧ (header.extractLsb' 37 9).toNat = 0) ∧
        (∀ i, r.winner = some i → header.getLsbD 36 = true ∧ (header.extractLsb' 37 9).toNat = i.val) ∧
        (header.extractLsb' 34 2).toNat =
          (match r.outcome with
            | .matched => 1
            | .miss => 2
            | .dark => 3) ∧
        (header.extractLsb' 32 2).toNat = r.channel.val ∧ (header.extractLsb' 0 32).toNat = r.number) ∧
      ((first.extractLsb' 48 16).toInt = r.grade.m11 ∧ (first.extractLsb' 32 16).toNat = r.grade.gB ∧
        (first.extractLsb' 16 16).toNat = r.grade.gG ∧ (first.extractLsb' 0 16).toNat = r.grade.gR) ∧
      ((second.extractLsb' 48 16).toInt = r.grade.m22 ∧ (second.extractLsb' 32 16).toInt = r.grade.m21 ∧
        (second.extractLsb' 16 16).toInt = r.grade.m13 ∧ (second.extractLsb' 0 16).toInt = r.grade.m12) ∧
      (third.extractLsb' 48 16).toInt = r.grade.m33 ∧ (third.extractLsb' 32 16).toInt = r.grade.m32 ∧
      (third.extractLsb' 16 16).toInt = r.grade.m31 ∧ (third.extractLsb' 0 16).toInt = r.grade.m23

/-- R85, R86: a SET CHANNEL out of range is refused; one whose channel has no frame work in progress is performed at
once; any other waits, and is performed when that work ends. A channel has frame work in progress from the start of a
frame in work, if it is in its channel set, until its part ends (R68). Performing it writes the carried fields, and a
disable clears the working state that R85 names. -/
def Obligations.SetChannelIsPerformedOrWaits : Prop :=
  ∀ (channel : Nat) (f : ChannelFields) (s : State),
    (∀ c : Chan, s.inWork c = true ↔
        ∃ w waiting, s.path.closing = .busy w waiting ∧ w.inputs[c] ≠ .outside ∧ w.channel ≤ c) ∧
      (s.listens = true →
        (4 ≤ channel ∨ ¬f.inRange →
            exec (.setChannel channel f) s = .next (s.answers (.refused .range))) ∧
          ∀ c : Chan, c.val = channel → f.inRange →
            (s.inWork c = false →
                exec (.setChannel channel f) s =
                  .next
                    (State.answers { s with channels := s.channels.set c ((s.channel c).write f) } (.done .nothing))) ∧
              (s.inWork c = true →
                exec (.setChannel channel f) s =
                  .next
                    { s with
                      link := { state := .working (.setChannel c f), out := s.messageOut }
                      trailing := s.trailing.tail })) ∧
      (∀ c : Chan, s.link.state = .working (.setChannel c f) → s.inWork c = false →
        exec .setChannelPerform s =
          .next
            { s with
              channels := s.channels.set c ((s.channel c).write f)
              link := { s.link with state := .replyReady (.done .nothing) } }) ∧
      ∀ (ch : Channel) (g : ChannelConfig),
        g =
            { enabled := match f.enabled with
                | some v => decide (v = 1)
                | none => ch.config.enabled
              zoneSet := match f.zoneSet with
                | some v => BitVec.ofNat 16 v
                | none => ch.config.zoneSet
              glideLength := f.glideLength.getD ch.config.glideLength
              pace := f.pace.getD ch.config.pace
              flapLimit := f.flapLimit.getD ch.config.flapLimit
              flapWindow := f.flapWindow.getD ch.config.flapWindow
              learn := match f.learn with
                | some v => decide (v = 1)
                | none => ch.config.learn
              learnClass := match f.learnClass with
                | some v => Fin.ofNat 4 v
                | none => ch.config.learnClass
              learnWeight := f.learnWeight.getD ch.config.learnWeight } →
          (ch.config.enabled = true ∧ g.enabled = false →
              ch.write f =
                { ch with
                  config := g, winner := none, pendingDerivation := none, lock := .free, switchCount := 0
                  windowEnd := none }) ∧
            (¬(ch.config.enabled = true ∧ g.enabled = false) → ch.write f = { ch with config := g })

/-! ### Learning -/

/-- R96: a SEARCH takes, of the LIVE entries that agree in tag, lie within the learning reach in level and within the
learning radius in distance, the nearest three, nearest first, ties by lower slot. -/
def Obligations.SearchTakesNearestCandidates : Prop :=
  ∀ (s : State) (k : Key) (candidate : Slot → Prop) (distance : Slot → Nat),
    (∀ i, candidate i ↔
        ∃ e x, (s.cell i).holdsLive e x ∧ (e.key.tag = k.tag ∨ s.frameProfile.tagMode = .any) ∧
          ((e.key.level : Int) - k.level).natAbs ≤ s.frameProfile.learningReach ∧
          ((e.key.u : Int) - k.u).natAbs + ((e.key.v : Int) - k.v).natAbs ≤ s.frameProfile.learningRadius) →
      (∀ i e, (s.cell i).entry = some e →
        distance i = ((e.key.u : Int) - k.u).natAbs + ((e.key.v : Int) - k.v).natAbs) →
      (s.nearest k).length ≤ 3 ∧ (∀ i ∈ s.nearest k, candidate i) ∧
        (s.nearest k).Pairwise (fun i j => distance i < distance j ∨ (distance i = distance j ∧ i < j)) ∧
        ∀ j, candidate j → j ∉ s.nearest k →
          (s.nearest k).length = 3 ∧
            ∀ i ∈ s.nearest k, distance i < distance j ∨ (distance i = distance j ∧ i < j)

/-- R96, R97: a SEARCH that finds parents writes them, with slot, generation and distance, makes its request BLENDING and
hands the grade copies to the blender; the unit then chooses (R95). One that finds no candidate ends its request
NO_PARENTS and raises LEARN_ABANDONED, in the one operation and whether or not it is the rerun's search. -/
def Obligations.SearchRecordsParentsOrAbandons : Prop :=
  (∀ (s : State) (n : Nat) (q : Derivation) (before after : List Derivation),
    s.settled = true → s.deriveGrant = some (.search n) → s.derive.queue = before ++ q :: after → q.number = n →
      (∀ p ∈ before ++ after, p.number ≠ n) → s.nearest q.key ≠ [] →
      ∀ distance : Slot → Nat,
        (∀ i e, (s.cell i).entry = some e →
          distance i = ((e.key.u : Int) - q.key.u).natAbs + ((e.key.v : Int) - q.key.v).natAbs) →
        ∃ (parents : List Parent) (inputs : List BlendInput),
          parents =
              (s.nearest q.key).map (fun i =>
                { slot := i, generation := (s.cell i).generation, distance := distance i }) ∧
            List.Forall₂
              (fun i (b : BlendInput) => b.distance = distance i ∧ ∃ e x, (s.cell i).holdsLive e x ∧ b.grade = x.grade)
              (s.nearest q.key) inputs ∧
            exec .search s =
              .next
                (State.chooseDerive
                  { s with
                    arbiter := s.arbiter.servedDerive
                    derive :=
                      { s.derive with
                        queue := before ++ { q with stage := .blending, parents := some parents } :: after
                        waitingBlends := s.derive.waitingBlends ++ [{ request := some n, inputs := inputs }] } })) ∧
    ∀ (s : State) (n : Nat) (q : Derivation),
      s.settled = true → s.deriveGrant = some (.search n) → s.request n = some q →
        (∀ i e x, (s.cell i).holdsLive e x →
          ¬((e.key.tag = q.key.tag ∨ s.frameProfile.tagMode = .any) ∧
              ((e.key.level : Int) - q.key.level).natAbs ≤ s.frameProfile.learningReach ∧
              ((e.key.u : Int) - q.key.u).natAbs + ((e.key.v : Int) - q.key.v).natAbs ≤
                s.frameProfile.learningRadius)) →
        ∃ t, exec .search s = .next t ∧
          State.endsRequest s t q .noParents (s.notices.raised .learnAbandoned q.channel.val)

/-- R98: a blend that waits starts while fewer than four are in progress; the blend that started first completes, into
its request's result or, when the request has left the queue, into nothing. -/
def Obligations.BlendsStartAndComplete : Prop :=
  (∀ (s : State) (b : Blend) (l : List Blend), s.derive.waitingBlends = b :: l → s.derive.blends.length < 4 →
      exec .blendStart s =
        .next { s with derive := { s.derive with blends := s.derive.blends ++ [b], waitingBlends := l } }) ∧
    ∀ (s : State) (b : Blend) (l : List Blend), s.settled = true → s.derive.blends = b :: l →
      (b.request = none → exec .blendComplete s = .next { s with derive := { s.derive with blends := l } }) ∧
        ∀ n before q after, b.request = some n → s.derive.queue = before ++ q :: after → q.number = n →
          (∀ p ∈ before ++ after, p.number ≠ n) →
          exec .blendComplete s =
            .next
              (State.chooseDerive
                { s with
                  derive :=
                    { s.derive with
                      blends := l
                      queue :=
                        before ++ { q with stage := .ready, result := some (blendGrade b.inputs) } :: after } })

/-- R99: each value of a blend is the weighted mean of the parents' values, rounded toward zero, within its range; it
lies between the least and the greatest of the parents' values, and a single parent's grade comes out exactly. -/
def Obligations.BlendIsAWeightedMean : Prop :=
  (∀ l : List BlendInput, (blendGrade l).holds) ∧
    (∀ (g : Grade) (d : Nat), g.holds → d ≤ 8190 → blendGrade [{ grade := g, distance := d }] = g) ∧
    ∀ (l : List BlendInput) (weight : BlendInput → Int), l ≠ [] → (∀ b ∈ l, b.grade.holds ∧ b.distance ≤ 8190) →
      (∀ b, weight b = 65536 / ((b.distance : Int) + 16)) →
      ∀ v ∈ [Grade.gR, Grade.gG, Grade.gB, Grade.m11, Grade.m12, Grade.m13, Grade.m21, Grade.m22, Grade.m23,
          Grade.m31, Grade.m32, Grade.m33],
        v (blendGrade l) = (l.map fun b => weight b * v b.grade).sum.tdiv (l.map weight).sum ∧
          ∀ lo hi : Int, (∀ b ∈ l, lo ≤ v b.grade ∧ v b.grade ≤ hi) → lo ≤ v (blendGrade l) ∧ v (blendGrade l) ≤ hi

/-- R100: an INSTALL with a stale parent returns its request to WAITING once, keeping its place and its parents, and
ends it STALE with LEARN_ABANDONED after that. -/
def Obligations.InstallWithStaleParent : Prop :=
  ∀ (s : State) (q : Derivation) (l : List Derivation) (g : Grade) (p : Parent),
    s.settled = true → s.deriveGrant = some (.install q.number) → s.derive.queue = q :: l → q.result = some g →
      (∀ r ∈ l, r.number ≠ q.number) → p ∈ q.parents.getD [] →
      (s.cell p.slot).state ≠ .live ∨ (s.cell p.slot).generation ≠ p.generation →
      (q.rerunUsed = false →
          exec .install s =
            .next
              (State.chooseDerive
                { s with
                  arbiter := s.arbiter.servedDerive
                  derive :=
                    { s.derive with
                      queue := { q with stage := .waiting, rerunUsed := true, result := none } :: l } })) ∧
        (q.rerunUsed = true →
          ∃ t, exec .install s = .next t ∧
            State.endsRequest s t q .stale (s.notices.raised .learnAbandoned q.channel.val))

/-- R101: with no stale parent, a LIVE entry that matches the request's key under the FRAME profile ends the request
REDUNDANT, with no cause and the table unchanged, whatever the entry's vigour and origin. -/
def Obligations.InstallFindsKeyCovered : Prop :=
  ∀ (s : State) (n : Nat) (q : Derivation) (g : Grade) (i : Slot) (e : Entry) (x : Illuminant),
    s.settled = true → s.deriveGrant = some (.install n) → s.request n = some q → q.result = some g →
      (∀ p ∈ q.parents.getD [], (s.cell p.slot).state = .live ∧ (s.cell p.slot).generation = p.generation) →
      (s.cell i).holdsLive e x → s.frameProfile.admits q.key e.key = true →
      ∃ t, exec .install s = .next t ∧ State.endsRequest s t q .redundant s.notices

/-- R102, R104, R105, R19: an INSTALL that is neither stale nor redundant creates its entry at last free when the EMPTY
count is above the reserve; else it evicts its choice, raising LEARN_EVICT, and creates the entry at last free as it then
stands; else it ends FULL with LEARN_ABANDONED and the table unchanged. -/
def Obligations.InstallFindsRoomOrEndsFull : Prop :=
  ∀ (s : State) (n : Nat) (q : Derivation) (g : Grade) (entry : Entry),
    s.settled = true → s.deriveGrant = some (.install n) → s.request n = some q → q.result = some g →
      (∀ p ∈ q.parents.getD [], (s.cell p.slot).state = .live ∧ (s.cell p.slot).generation = p.generation) →
      (∀ i e x, (s.cell i).holdsLive e x → s.frameProfile.admits q.key e.key = false) →
      entry =
          { origin :=
              .learned ((q.parents.getD []).map (fun p => { slot := p.slot, generation := p.generation }))
                q.issueFrame
            key := q.key, stamp := q.issueDepth, pin := false, shadow := none
            body :=
              .illuminant .live
                { grade := g, cls := q.cls, vigour := .active, idleTicks := 0, touched := false, takeovers := 0
                  doubt := 0 } } →
      (∀ i, s.derive.reserve < s.countOf .empty → s.lastFree = some i →
          ∃ t, exec .install s = .next t ∧
            State.endsRequest
              { s with
                table :=
                  s.table.set i { generation := nextGeneration (s.cell i).generation, entry := some entry } }
              t q (.installed i) s.notices) ∧
        (∀ v i u, s.countOf .empty ≤ s.derive.reserve → s.derive.evictionPermitted = true →
          s.evictionChoice = some v →
          u =
            { s with
              table := s.table.set v { generation := nextGeneration (s.cell v).generation, entry := none }
              notices := s.notices.raised .learnEvict v.val } →
          u.lastFree = some i →
          ∃ t, exec .install s = .next t ∧
            State.endsRequest
              { u with
                table :=
                  u.table.set i { generation := nextGeneration (u.cell i).generation, entry := some entry } }
              t q (.installed i) u.notices) ∧
        (s.countOf .empty ≤ s.derive.reserve → s.derive.evictionPermitted = false ∨ s.evictionChoice = none →
          ∃ t, exec .install s = .next t ∧
            State.endsRequest s t q .full (s.notices.raised .learnAbandoned q.channel.val))

/-- R103, R104: an eviction candidate is LIVE, LEARNED, unpinned, IDLE or DORMANT, no channel's winner and in no queued
request's parents list; a DORMANT candidate goes before an IDLE one, and the highest slot before the others. -/
def Obligations.EvictionChoosesHighestDormantFirst : Prop :=
  ∀ (s : State) (candidate dormant : Slot → Prop),
    (∀ i, candidate i ↔
        (∃ e x parents n, (s.cell i).holdsLive e x ∧ e.origin = .learned parents n ∧ e.pin = false ∧
          x.vigour ≠ .active) ∧
          (∀ c : Chan, (s.channel c).winner ≠ some i) ∧
          ∀ q ∈ s.derive.queue, ∀ p ∈ q.parents.getD [], p.slot ≠ i) →
      (∀ i, dormant i ↔ ∃ e x, (s.cell i).holdsLive e x ∧ x.vigour = .dormant) →
      (s.evictionChoice = none ↔ ∀ i, ¬candidate i) ∧
        ∀ i,
          s.evictionChoice = some i ↔
            candidate i ∧
              ∀ j, candidate j → j ≠ i → (dormant i ∧ ¬dormant j) ∨ ((dormant i ↔ dormant j) ∧ j < i)

/-! ### Aging -/

/-- R115, R116: with no sweep in progress and some pending count above 0, a sweep starts: it takes the counts and the
thresholds, returns the counts to 0, and submits the step of block 0. -/
def Obligations.SweepStartsWithASnapshot : Prop :=
  ∀ s : State, s.aging.sweep = none → (∃ k : ClassNo, s.aging.pendingTicks[k] ≠ 0) →
    ∃ snapshot : Vector ClassSnapshot 4,
      exec .sweepStart s =
          .next
            { s with
              aging :=
                { s.aging with
                  pendingTicks := Vector.replicate 4 0
                  sweep := some { position := 0, snapshot := snapshot } }
              arbiter := { s.arbiter with aging := some 0 } } ∧
        ∀ k : ClassNo,
          (snapshot[k] : ClassSnapshot) =
            { ticks := s.aging.pendingTicks[k]
              idleAt := (s.aging.classes[k] : ClassDescriptor).idleAt
              dormantAt := (s.aging.classes[k] : ClassDescriptor).dormantAt
              retireAt := (s.aging.classes[k] : ClassDescriptor).retireAt }

/-- R117 to R121: a SWEEP STEP ages each LIVE entry of its block whose class has snapshot ticks: touched clears to idle
ticks 0, untouched adds the ticks, the vigour follows the thresholds, and an entry at retire_at that is neither pinned
nor a winner is retired. Every other slot stands. The next block's step is then submitted, or the sweep ends. -/
def Obligations.SweepStepAgesItsBlock : Prop :=
  ∀ (s : State) (b : Block) (w : Sweep), s.settled = true → s.agingGrant = some b → s.aging.sweep = some w →
    ∃ t, exec .sweepStep s = .next t ∧
      t =
        { s with
          table := t.table
          aging :=
            { s.aging with
              sweep := if h : b.val + 1 < 8 then some { w with position := ⟨b.val + 1, h⟩ } else none }
          arbiter :=
            { s.arbiter with
              rotation := .aging
              aging := if h : b.val + 1 < 8 then some ⟨b.val + 1, h⟩ else none } } ∧
      (∀ i : Slot, i.val / 64 ≠ b.val ∨ (s.cell i).state ≠ .live → t.cell i = s.cell i) ∧
      ∀ (i : Slot) (e : Entry) (x : Illuminant) (k : ClassSnapshot) (idle : Nat),
        i.val / 64 = b.val → (s.cell i).holdsLive e x → k = w.snapshot[x.cls] →
          idle = (if x.touched then 0 else min (x.idleTicks + k.ticks) 255) →
          (k.ticks = 0 → t.cell i = s.cell i) ∧
            (k.ticks ≠ 0 → k.retireAt ≠ 0 → k.retireAt ≤ idle → e.pin = false →
              (∀ c : Chan, (s.channel c).winner ≠ some i) →
              t.cell i = { generation := nextGeneration (s.cell i).generation, entry := none }) ∧
            (k.ticks ≠ 0 →
              (k.retireAt = 0 ∨ idle < k.retireAt ∨ e.pin = true ∨ ∃ c : Chan, (s.channel c).winner = some i) →
              t.cell i =
                { generation := (s.cell i).generation
                  entry :=
                    some
                      { e with
                        body :=
                          .illuminant .live
                            { x with
                              touched := false
                              idleTicks := idle
                              vigour :=
                                if k.dormantAt ≤ idle then .dormant
                                else if k.idleAt ≤ idle then .idle
                                else .active } } })

/-! ### Requests as they are taken -/

/-- R154: a PLACE is refused for its designator, else for a value out of range, else for a body that does not suit its
state, and is otherwise submitted. -/
def Obligations.PlaceIsTaken : Prop :=
  ∀ (q : PlaceRequest) (s : State), s.listens = true →
    (∀ r, resolveDesignator s q.designator = .error r → exec (.place q) s = .next (s.answers (.refused r))) ∧
      ∀ t, resolveDesignator s q.designator = .ok t →
        ∀ inRange : Prop,
          (inRange ↔
            q.flags ≤ 7 ∧ 1 ≤ q.state ∧ q.state ≤ 3 ∧ q.key.inRange ∧ (∀ c, q.cls = some c → c ≤ 3) ∧
              q.body.inRange) →
          (¬inRange → exec (.place q) s = .next (s.answers (.refused .range))) ∧
            (∀ g m c, inRange → q.state ≠ 3 →
              q.body = { gains := some g, matrix := some m, reference := none, limits := none } →
              q.cls = some c →
              exec (.place q) s =
                .next
                  (s.submits
                    (.place t
                      { key := q.key, pin := q.flags.testBit 0, unique := q.flags.testBit 1
                        overwrite := q.flags.testBit 2
                        body :=
                          .illuminant (if q.state = 1 then .live else .held)
                            { gR := g.gR, gG := g.gG, gB := g.gB, m11 := m.m11, m12 := m.m12, m13 := m.m13
                              m21 := m.m21, m22 := m.m22, m23 := m.m23, m31 := m.m31, m32 := m.m32, m33 := m.m33 }
                            (Fin.ofNat 4 c) }))) ∧
            (∀ a l, inRange → q.state = 3 →
              q.body = { gains := none, matrix := none, reference := some a, limits := some l } → q.cls = none →
              exec (.place q) s =
                .next
                  (s.submits
                    (.place t
                      { key := q.key, pin := q.flags.testBit 0, unique := q.flags.testBit 1
                        overwrite := q.flags.testBit 2, body := .anchor { reference := a, limits := l } }))) ∧
            (inRange →
              (q.state ≠ 3 →
                q.body.gains = none ∨ q.body.matrix = none ∨ q.cls = none ∨ q.body.reference ≠ none ∨
                  q.body.limits ≠ none) →
              (q.state = 3 →
                q.body.gains ≠ none ∨ q.body.matrix ≠ none ∨ q.cls ≠ none ∨ q.body.reference = none ∨
                  q.body.limits = none) →
              exec (.place q) s = .next (s.answers (.refused .wrongState)))

/-- R156 at taking, with log entry 15's order: an AMEND is refused for its designator, else for a value out of range or
for carrying nothing, else for a body some of whose values are missing, and is otherwise submitted. -/
def Obligations.AmendIsTaken : Prop :=
  ∀ (q : AmendRequest) (s : State), s.listens = true →
    (∀ r, resolveDesignator s q.designator = .error r → exec (.amend q) s = .next (s.answers (.refused r))) ∧
      ∀ t, resolveDesignator s q.designator = .ok t →
        ∀ accepted whole : Prop,
          (accepted ↔
            ((∀ n, q.expected = some n → n ≤ 65535) ∧ (∀ k, q.key = some k → k.inRange) ∧
                (∀ c, q.cls = some c → c ≤ 3) ∧ q.body.inRange) ∧
              (q.key ≠ none ∨ q.cls ≠ none ∨ q.body.gains ≠ none ∨ q.body.matrix ≠ none ∨ q.body.reference ≠ none ∨
                q.body.limits ≠ none)) →
            (whole ↔
              (q.body.gains = none ↔ q.body.matrix = none) ∧ (q.body.reference = none ↔ q.body.limits = none)) →
            (¬accepted → exec (.amend q) s = .next (s.answers (.refused .range))) ∧
              (accepted → ¬whole → exec (.amend q) s = .next (s.answers (.refused .wrongState))) ∧
              (accepted → whole →
                ∃ change : Change,
                  exec (.amend q) s = .next (s.submits (.amend t change)) ∧
                    change.expected = q.expected ∧ change.key = q.key ∧ change.cls = q.cls.map (Fin.ofNat 4) ∧
                    (q.body.gains = none → change.grade = none) ∧
                    (q.body.reference = none → change.supplied = none) ∧
                    (∀ g m, q.body.gains = some g → q.body.matrix = some m →
                      change.grade =
                        some
                          { gR := g.gR, gG := g.gG, gB := g.gB, m11 := m.m11, m12 := m.m12, m13 := m.m13
                            m21 := m.m21, m22 := m.m22, m23 := m.m23, m31 := m.m31, m32 := m.m32, m33 := m.m33 }) ∧
                    ∀ r l, q.body.reference = some r → q.body.limits = some l →
                      change.supplied = some { reference := r, limits := l })

/-- R152, R157 to R163, R140, R174, R175: the designators, and the requests that are checked and then submitted. That a
CLOSE SCOPE that fails both of its checks is refused with RANGE is the model's choice (log entry 28). -/
def Obligations.RequestsAreChecked : Prop :=
  (∀ s : State,
    (∀ n : Nat, 512 ≤ n → resolveDesignator s (.absolute n) = .error .range) ∧
      (∀ i : Slot, resolveDesignator s (.absolute i.val) = .ok { ref := .at i, viaCursor := false }) ∧
      resolveDesignator s .cursor = .ok { ref := .at s.matching.service.cursor, viaCursor := true } ∧
      (∀ o : Int, o < -511 ∨ 511 < o ∨ s.matching.service.cursor.val + o < 0 ∨ 511 < s.matching.service.cursor.val + o →
        resolveDesignator s (.cursorOffset o) = .error .range) ∧
      (∀ (o : Int) (i : Slot), -511 ≤ o → o ≤ 511 → (i.val : Int) = s.matching.service.cursor.val + o →
        resolveDesignator s (.cursorOffset o) = .ok { ref := .at i, viaCursor := true }) ∧
      (s.matching.service.lastMatch = none → resolveDesignator s .lastMatch = .error .noMatch) ∧
      (∀ i, s.matching.service.lastMatch = some i →
        resolveDesignator s .lastMatch = .ok { ref := .at i, viaCursor := false }) ∧
      resolveDesignator s .nextFree = .ok { ref := .nextFree, viaCursor := false } ∧
      resolveDesignator s .lastFree = .ok { ref := .lastFree, viaCursor := false }) ∧
    ∀ (d : Designator) (s : State), s.listens = true →
      (∀ (r : Reason) (n : Nat), resolveDesignator s d = .error r →
          ∀ c ∈ [Instr.retire d, .setState d n, .pin d, .unpin d, .clearCounts d, .readEntry d],
            exec c s = .next (s.answers (.refused r))) ∧
        (∀ t, resolveDesignator s d = .ok t →
          exec (.retire d) s = .next (s.submits (.retire t)) ∧ exec (.pin d) s = .next (s.submits (.pin t)) ∧
            exec (.unpin d) s = .next (s.submits (.unpin t)) ∧
            exec (.clearCounts d) s = .next (s.submits (.clearCounts t)) ∧
            exec (.readEntry d) s = .next (s.submits (.readEntry t)) ∧
            exec (.setState d 1) s = .next (s.submits (.setState t .live)) ∧
            exec (.setState d 2) s = .next (s.submits (.setState t .held)) ∧
            ∀ n, n ≠ 1 → n ≠ 2 → exec (.setState d n) s = .next (s.answers (.refused .range))) ∧
        (∀ k : Key,
          (k.inRange → exec (.seek k) s = .next (s.submits (.seek k))) ∧
            (¬k.inRange → exec (.seek k) s = .next (s.answers (.refused .range)))) ∧
        (s.matching.service.lastSeekKey = none → exec .seekNext s = .next (s.answers (.refused .noMatch))) ∧
        (∀ k, s.matching.service.lastSeekKey = some k →
          (s.matching.service.lastMatch = none → exec .seekNext s = .next (s.submits (.seekNext k 0))) ∧
            ∀ i, s.matching.service.lastMatch = some i →
              exec .seekNext s = .next (s.submits (.seekNext k (i.val + 1)))) ∧
        (∀ mode, 2 ≤ mode → exec (.closeScope mode) s = .next (s.answers (.refused .range))) ∧
        (s.depth = 0 → ∀ mode, mode < 2 → exec (.closeScope mode) s = .next (s.answers (.refused .noScope))) ∧
        (s.depth ≠ 0 →
          exec (.closeScope 0) s = .next (s.submits (.keep s.depth)) ∧
            exec (.closeScope 1) s = .next (s.submits (.drop s.depth))) ∧
        exec .restart s = .next (s.submits .restart) ∧ exec .clearTable s = .next (s.submits .clearTable)

/-- R166, R168: in WORKING and REPLY READY a message is dropped, whole or not and whatever it holds: no cause, and the
request in work or the reply waiting unaffected. -/
def Obligations.MessagesAreDroppedWhileBusy : Prop :=
  ∀ (c : Instr) (s : State) (status : Byte), s.settled = true → s.lines.ready = true →
    ((∃ work, s.link.state = .working work) ∧ status = 0x82 ∨
      (∃ reply, s.link.state = .replyReady reply) ∧ status = 0x83) →
    (carriesMessage c = true →
        exec c s = .next { s with link := { s.link with out := [status] }, trailing := s.trailing.tail }) ∧
      ∀ code, c = .messageCutShort code → exec c s = .next { s with link := { s.link with out := [status] } }

/-! ### Requests at their grant -/

/-- R155, R19, R20, R41, R79: a PLACE at its grant. Its designator names the slot it was resolved to or, NEXT FREE and LAST
FREE, the free end as it stands at the grant (R152). -/
def Obligations.PlaceCreatesItsEntry : Prop :=
  ∀ (s : State) (t : Target) (n : NewEntry), s.grantsService (.place t n) →
    (t.slot s =
        match t.ref with
        | .at i => some i
        | .nextFree => s.nextFree
        | .lastFree => s.lastFree) ∧
      (t.slot s = none → exec .placeGrant s = .next (s.completes t (.refused .noFree))) ∧
      ∀ (i : Slot) (created : Entry) (duplicate : Prop), t.slot s = some i →
        (duplicate ↔ n.unique = true ∧ ∃ j e, (s.cell j).entry = some e ∧ e.key = n.key) →
        created =
            { origin := .authored, key := n.key, stamp := s.depth, pin := n.pin, shadow := none
              body := match n.body with
                | .illuminant st g k =>
                  .illuminant st
                    { grade := g, cls := k, vigour := .active, idleTicks := 0, touched := false, takeovers := 0
                      doubt := 0 }
                | .anchor a => .anchor { supplied := a, failStreak := 0, lastOutcome := .none } } →
        ((s.cell i).entry ≠ none → n.overwrite = false →
            exec .placeGrant s = .next (s.completes t (.refused .slotOccupied))) ∧
          ((s.cell i).entry = none ∨ n.overwrite = true → duplicate →
            exec .placeGrant s = .next (s.completes t (.refused .duplicate))) ∧
          ((s.cell i).entry = none → ¬duplicate →
            exec .placeGrant s =
              .next
                { s.completes t (.done (.slotGeneration i (nextGeneration (s.cell i).generation))) with
                  table :=
                    s.table.set i
                      { generation := nextGeneration (s.cell i).generation, entry := some created } }) ∧
          ((s.cell i).entry ≠ none → n.overwrite = true → ¬duplicate →
            ∃ u,
              exec .placeGrant s = .next u ∧
                u =
                  { s.completes t
                      (.done (.slotGeneration i (nextGeneration (nextGeneration (s.cell i).generation)))) with
                    table := u.table
                    channels := u.channels } ∧
                (∀ j : Slot,
                  u.cell j =
                    if j = i then
                      { generation := nextGeneration (nextGeneration (s.cell i).generation), entry := some created }
                    else s.cell j) ∧
                ∀ c : Chan, u.channel c = (s.channel c).without i)

/-- R156, R142, R143, R17, R41: an AMEND at its grant; Entry.nests and Entry.forChange are R142's table, with the owned
depth spelled out. -/
def Obligations.AmendChangesItsEntry : Prop :=
  ∀ (s : State) (t : Target) (c : Change), s.grantsService (.amend t c) →
    (t.slot s =
        match t.ref with
        | .at i => some i
        | .nextFree => s.nextFree
        | .lastFree => s.lastFree) ∧
      (t.slot s = none → exec .amendGrant s = .next (s.completes t (.refused .noFree))) ∧
      ∀ i, t.slot s = some i →
        ((s.cell i).entry = none → exec .amendGrant s = .next (s.completes t (.refused .slotEmpty))) ∧
          ∀ (e : Entry) (stale suits : Prop) (generation : Nat), (s.cell i).entry = some e →
            (stale ↔ ∃ g, c.expected = some g ∧ g ≠ (s.cell i).generation) →
            (suits ↔
              ((∃ st x, e.body = .illuminant st x) → c.supplied = none) ∧
                ((∃ a, e.body = .anchor a) → c.grade = none ∧ c.cls = none)) →
            generation =
                (if c.key = none ∧ c.grade = none ∧ c.supplied = none then (s.cell i).generation
                 else nextGeneration (s.cell i).generation) →
            (stale → exec .amendGrant s = .next (s.completes t (.refused .stale))) ∧
              (¬stale → ¬suits → exec .amendGrant s = .next (s.completes t (.refused .wrongState))) ∧
              (¬stale → suits → e.nests s.depth → exec .amendGrant s = .next (s.completes t (.refused .nested))) ∧
              (¬stale → suits → ¬e.nests s.depth →
                exec .amendGrant s =
                  .next
                    { s.completes t (.done (.generation generation)) with
                      table :=
                        s.table.set i
                          { generation := generation
                            entry :=
                              some
                                { e.forChange s.depth with
                                  key := c.key.getD e.key
                                  body := match e.body with
                                    | .illuminant st x =>
                                      .illuminant st
                                        { x with grade := c.grade.getD x.grade, cls := c.cls.getD x.cls }
                                    | .anchor a =>
                                      match c.supplied with
                                      | some y => .anchor { supplied := y, failStreak := 0, lastOutcome := .none }
                                      | none => .anchor a } } })

/-- R157, R136, R142, R143, R79, R41: a SET STATE at its grant. -/
def Obligations.SetStateMovesItsEntry : Prop :=
  ∀ (s : State) (t : Target) (st : LightState), s.grantsService (.setState t st) →
    (t.slot s =
        match t.ref with
        | .at i => some i
        | .nextFree => s.nextFree
        | .lastFree => s.lastFree) ∧
      (t.slot s = none → exec .setStateGrant s = .next (s.completes t (.refused .noFree))) ∧
      ∀ i, t.slot s = some i →
        ((s.cell i).entry = none → exec .setStateGrant s = .next (s.completes t (.refused .slotEmpty))) ∧
          (∀ e a, (s.cell i).entry = some e → e.body = .anchor a →
            exec .setStateGrant s = .next (s.completes t (.refused .wrongState))) ∧
          (∀ e x, (s.cell i).entry = some e → e.body = .illuminant st x →
            exec .setStateGrant s = .next (s.completes t (.refused .wrongState))) ∧
          ∀ e now x, (s.cell i).entry = some e → e.body = .illuminant now x → now ≠ st →
            (e.nests s.depth → exec .setStateGrant s = .next (s.completes t (.refused .nested))) ∧
              (¬e.nests s.depth →
                ∃ u,
                  exec .setStateGrant s = .next u ∧
                    u =
                      { s.completes t (.done (.generation (nextGeneration (s.cell i).generation))) with
                        table :=
                          s.table.set i
                            { generation := nextGeneration (s.cell i).generation
                              entry :=
                                some
                                  { e.forChange s.depth with
                                    body :=
                                      .illuminant st { x with doubt := if st = .live then 0 else x.doubt } } }
                        channels := u.channels } ∧
                    ∀ c : Chan, u.channel c = if st = .held then (s.channel c).without i else s.channel c)

/-- R158, R142, R143, R41: a PIN or an UNPIN at its grant; the generation stands. -/
def Obligations.PinAndUnpinWriteThePin : Prop :=
  ∀ (s : State) (t : Target) (pin : Bool) (c : Instr),
    (pin = true ∧ c = .pinGrant ∧ s.grantsService (.pin t) ∨
      pin = false ∧ c = .unpinGrant ∧ s.grantsService (.unpin t)) →
    (t.slot s =
        match t.ref with
        | .at i => some i
        | .nextFree => s.nextFree
        | .lastFree => s.lastFree) ∧
      (t.slot s = none → exec c s = .next (s.completes t (.refused .noFree))) ∧
      ∀ i, t.slot s = some i →
        ((s.cell i).entry = none → exec c s = .next (s.completes t (.refused .slotEmpty))) ∧
          ∀ e, (s.cell i).entry = some e →
            (e.nests s.depth → exec c s = .next (s.completes t (.refused .nested))) ∧
              (¬e.nests s.depth →
                exec c s =
                  .next
                    { s.completes t (.done (.pinGeneration pin (s.cell i).generation)) with
                      table :=
                        s.table.set i
                          { generation := (s.cell i).generation
                            entry := some { e.forChange s.depth with pin := pin } } })

/-- R159, R160, R161, R20, R41, R79, R136: CLEAR COUNTS, RETIRE and READ ENTRY at their grants. -/
def Obligations.ClearRetireAndReadAtTheirGrants : Prop :=
  ∀ (s : State) (t : Target),
    (t.slot s =
        match t.ref with
        | .at i => some i
        | .nextFree => s.nextFree
        | .lastFree => s.lastFree) ∧
      (s.grantsService (.clearCounts t) →
        (t.slot s = none → exec .clearCountsGrant s = .next (s.completes t (.refused .noFree))) ∧
          ∀ i, t.slot s = some i →
            ((s.cell i).entry = none → exec .clearCountsGrant s = .next (s.completes t (.refused .slotEmpty))) ∧
              ∀ e, (s.cell i).entry = some e →
                exec .clearCountsGrant s =
                  .next
                    { s.completes t (.done (.generation (s.cell i).generation)) with
                      table :=
                        s.table.set i
                          { generation := (s.cell i).generation
                            entry :=
                              some
                                { e with
                                  body := match e.body with
                                    | .illuminant st x => .illuminant st { x with takeovers := 0, doubt := 0 }
                                    | .anchor a => .anchor { a with failStreak := 0 } } } }) ∧
      (s.grantsService (.retire t) →
        (t.slot s = none → exec .retireGrant s = .next (s.completes t (.refused .noFree))) ∧
          ∀ i, t.slot s = some i →
            ((s.cell i).entry = none → exec .retireGrant s = .next (s.completes t (.refused .slotEmpty))) ∧
              ((s.cell i).entry ≠ none →
                ∃ u,
                  exec .retireGrant s = .next u ∧
                    u =
                      { s.completes t (.done (.slotGeneration i (nextGeneration (s.cell i).generation))) with
                        table :=
                          s.table.set i
                            { generation := nextGeneration (s.cell i).generation, entry := none }
                        channels := u.channels } ∧
                    ∀ c : Chan, u.channel c = (s.channel c).without i)) ∧
      (s.grantsService (.readEntry t) →
        (t.slot s = none → exec .readEntryGrant s = .next (s.completes t (.refused .noFree))) ∧
          ∀ i, t.slot s = some i →
            exec .readEntryGrant s = .next (s.completes t (.done (.entry i (s.cell i)))))

/-- R39, R162, R163: a SERVICE match gives the lowest admitted matching slot from its start slot upward, counts them all,
and writes its context; it changes no entry. -/
def Obligations.SeekFindsLowestAdmitted : Prop :=
  ∀ (s : State) (k : Key) (start : Nat) (c : Instr) (found : Slot → Prop),
    (start = 0 ∧ c = .seekGrant ∧ s.grantsService (.seek k) ∨
      c = .seekNextGrant ∧ s.grantsService (.seekNext k start)) →
    (∀ i : Slot, found i ↔
      start ≤ i.val ∧
        ∃ e, (s.cell i).entry = some e ∧ s.serviceProfile.admits k e.key = true ∧
          match e.state with
          | .empty => False
          | .live => s.matching.service.filter.live = true
          | .held => s.matching.service.filter.held = true
          | .anchor => s.matching.service.filter.anchor = true) →
    ∃ (result : Option Slot) (count : Nat),
      (result = none ↔ ∀ i, ¬found i) ∧ (∀ i, result = some i ↔ found i ∧ ∀ j, found j → i ≤ j) ∧
        (∃ l : List Slot, l.Nodup ∧ (∀ i, i ∈ l ↔ found i) ∧ count = l.length) ∧
        exec c s =
          .next
            { s with
              arbiter := { s.arbiter with rotation := .service, service := none }
              matching :=
                { s.matching with
                  service :=
                    { s.matching.service with
                      lastMatch := result, matchCount := count, multiple := decide (2 ≤ count)
                      lastSeekKey := some k } }
              link :=
                { s.link with
                  state :=
                    .replyReady
                      (.done
                        (.found
                          (result.map fun i =>
                            { slot := i, state := (s.cell i).state, generation := (s.cell i).generation })
                          count (decide (2 ≤ count)))) } }

/-! ### Settings and reports -/

/-- R28, R32, R33, R63, R109, R113, R164: the requests that write settings: refused with RANGE and nothing changed, or
all carried values written together. The cursor's step wraps round the table. -/
def Obligations.SettingsAreWrittenOrRefused : Prop :=
  (∀ x : ServiceContext,
    x.stepCursor =
      { x with
        cursor := match x.cursorStep with
          | .none => x.cursor
          | .up => if x.cursor = 511 then 0 else x.cursor + 1
          | .down => if x.cursor = 0 then 511 else x.cursor - 1 }) ∧
    ∀ s : State, s.listens = true →
      (∀ n f, 2 ≤ n ∨ ¬f.inRange → exec (.setProfile n f) s = .next (s.answers (.refused .range))) ∧
        (∀ (p : Fin 2) (f : ProfileFields) (old : Profile), f.inRange → old = s.matching.profiles[p] →
          exec (.setProfile p.val f) s =
            .next
              (State.answers
                { s with
                  matching :=
                    { s.matching with
                      profiles :=
                        s.matching.profiles.set p
                          { du := f.du.getD old.du, dv := f.dv.getD old.dv, dl := f.dl.getD old.dl
                            tagMode := match f.tagMode with
                              | some 0 => .exact
                              | some _ => .any
                              | none => old.tagMode
                            confidenceFloor := f.confidenceFloor.getD old.confidenceFloor
                            doubtLimit := f.doubtLimit.getD old.doubtLimit
                            learningReach := f.learningReach.getD old.learningReach
                            learningRadius := f.learningRadius.getD old.learningRadius } } }
                (.done .nothing))) ∧
        (∀ n m, 2 ≤ n ∨ m = 0 ∨ 8 ≤ m → exec (.setServiceMatch n m) s = .next (s.answers (.refused .range))) ∧
        (∀ (p : Fin 2) (m : Nat), 1 ≤ m → m < 8 →
          exec (.setServiceMatch p.val m) s =
            .next
              (State.answers
                { s with
                  matching :=
                    { s.matching with
                      service :=
                        { s.matching.service with
                          selected := p
                          filter := { live := m.testBit 0, held := m.testBit 1, anchor := m.testBit 2 }
                          lastMatch := none, lastSeekKey := none, multiple := false, matchCount := 0 } } }
                (.done .nothing))) ∧
        (∀ n, 2 ≤ n → exec (.stageProfile n) s = .next (s.answers (.refused .range))) ∧
        (∀ p : Fin 2,
          exec (.stageProfile p.val) s =
            .next
              (State.answers
                { s with matching := { s.matching with frame := { s.matching.frame with staged := some p } } }
                (.done .nothing))) ∧
        (∀ slot step, 512 ≤ slot ∨ 3 ≤ step → exec (.setCursor slot step) s = .next (s.answers (.refused .range))) ∧
        (∀ (i : Slot) (step : Nat) (st : CursorStep),
          step = 0 ∧ st = .none ∨ step = 1 ∧ st = .up ∨ step = 2 ∧ st = .down →
          exec (.setCursor i.val step) s =
            .next
              (State.answers
                { s with
                  matching :=
                    { s.matching with service := { s.matching.service with cursor := i, cursorStep := st } } }
                (.done .nothing))) ∧
        (∀ r v, ¬(carriedWithin 0 64 r ∧ carriedWithin 0 1 v) →
          exec (.setLearning r v) s = .next (s.answers (.refused .range))) ∧
        (∀ r v, carriedWithin 0 64 r → carriedWithin 0 1 v →
          exec (.setLearning r v) s =
            .next
              (State.answers
                { s with
                  derive :=
                    { s.derive with
                      reserve := r.getD s.derive.reserve
                      evictionPermitted := match v with
                        | some n => decide (n = 1)
                        | none => s.derive.evictionPermitted } }
                (.done .nothing))) ∧
        (∀ n f, 4 ≤ n → exec (.setClass n f) s = .next (s.answers (.refused .range))) ∧
        ∀ (k : ClassNo) (f : ClassFields) (d : ClassDescriptor) (sound : Prop),
          d =
              { prescale := f.prescale.getD (s.aging.classes[k] : ClassDescriptor).prescale
                idleAt := f.idleAt.getD (s.aging.classes[k] : ClassDescriptor).idleAt
                dormantAt := f.dormantAt.getD (s.aging.classes[k] : ClassDescriptor).dormantAt
                retireAt := f.retireAt.getD (s.aging.classes[k] : ClassDescriptor).retireAt } →
            (sound ↔ d.idleAt ≤ d.dormantAt ∧ (d.retireAt = 0 ∨ d.dormantAt ≤ d.retireAt)) →
            (¬(f.inRange ∧ sound) → exec (.setClass k.val f) s = .next (s.answers (.refused .range))) ∧
              (f.inRange → sound →
                exec (.setClass k.val f) s =
                  .next
                    (State.answers { s with aging := { s.aging with classes := s.aging.classes.set k d } }
                      (.done (.classDescriptor d s.aging.pendingTicks[k]))))

/-- R87, R110, R171, R172, R173: the reports, which change nothing, and the two requests on causes. The attention line
is asserted exactly while a pending cause is enabled and RESET is not asserted. -/
def Obligations.ReportsAndCauses : Prop :=
  (∀ s : State,
    s.attention = true ↔
      s.lines.resetAsserted = false ∧
        ∃ i : Fin 13, (s.notices.causes[i] : Notice).pending = true ∧ s.notices.mask.getLsbD i.val = true) ∧
    ∀ s : State, s.listens = true →
      (∀ n, 4 ≤ n → exec (.readChannel n) s = .next (s.answers (.refused .range))) ∧
        (∀ c : Chan, exec (.readChannel c.val) s = .next (s.answers (.done (.channel (s.channel c))))) ∧
        exec .readDerivations s =
            .next
              (s.answers
                (.done
                  (.derivations
                    { queue := s.derive.queue, reserve := s.derive.reserve
                      evictionPermitted := s.derive.evictionPermitted, nextNumber := s.derive.nextNumber
                      blendsInProgress := s.derive.blends.length, lastEnding := s.derive.lastEnding }))) ∧
        exec .readStatus s =
            .next
              (s.answers
                (.done
                  (.status
                    { emptyCount := s.countOf .empty, liveCount := s.countOf .live, heldCount := s.countOf .held
                      anchorCount := s.countOf .anchor, nextFree := s.nextFree, lastFree := s.lastFree
                      depth := s.depth, queueLength := s.derive.queue.length, lastAccepted := s.path.lastAccepted
                      receiving := s.path.receiving
                      closing := match s.path.closing with
                        | .free => .free
                        | .handed f => .busy f.number
                        | .busy w none => .busy w.frame.number
                        | .busy w (some f) => .busyPending w.frame.number f.number
                      sweeping := s.aging.sweep.isSome }))) ∧
        exec .readCauses s = .next (s.answers (.done (.causes s.notices))) ∧
        (∀ n, 8192 ≤ n →
          exec (.clearCauses n) s = .next (s.answers (.refused .range)) ∧
            exec (.setNoticeMask n) s = .next (s.answers (.refused .range))) ∧
        ∀ n, n < 8192 →
          exec (.setNoticeMask n) s =
              .next
                (State.answers { s with notices := { s.notices with mask := BitVec.ofNat 13 n } } (.done .nothing)) ∧
            ∃ causes : Vector Notice 13,
              exec (.clearCauses n) s =
                  .next
                    (State.answers { s with notices := { s.notices with causes := causes } } (.done .nothing)) ∧
                ∀ i : Fin 13,
                  (causes[i] : Notice) =
                    { pending := (s.notices.causes[i] : Notice).pending && !n.testBit i.val
                      detail := (s.notices.causes[i] : Notice).detail }

/-! ### Scopes and the whole part -/

/-- R139: an OPEN SCOPE below depth 3 raises the depth by one, changes nothing in the table and replies with the new
depth; at depth 3 it is refused with SCOPE_FULL. -/
def Obligations.OpenScopeRaisesTheDepth : Prop :=
  ∀ s : State, s.listens = true →
    (s.depth < 3 →
        exec .openScope s = .next (State.answers { s with depth := s.depth + 1 } (.done (.depth (s.depth + 1))))) ∧
      (3 ≤ s.depth → exec .openScope s = .next (s.answers (.refused .scopeFull)))

/-- R144, R145, R146, R108, R16: the DROP of depth d retires the entries stamped d, restores those shadowed at d,
clears the winners it takes out of LIVE, removes the requests issued at d, and lowers the depth. -/
def Obligations.DropUndoesTheScope : Prop :=
  ∀ (s : State) (d : Nat), s.grantsService (.drop d) →
    ∃ (u t : State) (retired restored : Nat) (gone : List Nat) (stamped shadowed : List Slot),
      exec .dropWalk s = .next t ∧
        gone = (s.derive.queue.filter (fun q => q.issueDepth == d)).map (fun q => q.number) ∧
        t =
          { u.chooseDerive with
            depth := d - 1
            link := { s.link with state := .replyReady (.done (.dropped (d - 1) retired restored gone.length)) } } ∧
        u =
          { s with
            table := u.table
            channels := u.channels
            arbiter :=
              { s.arbiter with
                rotation := .service
                service := none
                derive := u.arbiter.derive }
            derive :=
              { s.derive with
                queue := s.derive.queue.filter (fun q => q.issueDepth != d)
                blends := s.derive.blends.map (Blend.without gone)
                waitingBlends := s.derive.waitingBlends.filter (Blend.startsWithout gone) } } ∧
        (∀ op, u.arbiter.derive = some op ↔
          s.arbiter.derive = some op ∧ ∀ n ∈ gone, op ≠ .search n ∧ op ≠ .install n) ∧
        (∀ i, (s.cell i).entry = none → u.cell i = s.cell i) ∧
        (∀ i e, (s.cell i).entry = some e → e.stamp = d →
          u.cell i = { generation := nextGeneration (s.cell i).generation, entry := none }) ∧
        (∀ i e sh, (s.cell i).entry = some e → e.stamp ≠ d → e.shadow = some sh → sh.depth = d →
          u.cell i =
            { generation := nextGeneration (s.cell i).generation
              entry :=
                some
                  { e with
                    key := sh.key
                    pin := sh.pin
                    shadow := none
                    body := match sh.body, e.body with
                      | .illuminant st g k, .illuminant _ x => .illuminant st { x with grade := g, cls := k }
                      | .anchor a, .anchor _ => .anchor { supplied := a, failStreak := 0, lastOutcome := .none }
                      | _, b => b } }) ∧
        (∀ i e, (s.cell i).entry = some e → e.stamp ≠ d → (∀ sh, e.shadow = some sh → sh.depth ≠ d) →
          u.cell i = s.cell i) ∧
        (∀ c : Chan,
          u.channel c =
            { s.channel c with
              winner := (u.channel c).winner
              pendingDerivation := (u.channel c).pendingDerivation } ∧
            (∀ i, (s.channel c).winner = some i → (s.cell i).state = .live →
              (u.channel c).winner = if (u.cell i).state = .live then some i else none) ∧
            ((s.channel c).winner = none → (u.channel c).winner = none) ∧
            ∀ n, (u.channel c).pendingDerivation = some n ↔
              (s.channel c).pendingDerivation = some n ∧ n ∉ gone) ∧
        stamped.Nodup ∧ retired = stamped.length ∧
        (∀ i, i ∈ stamped ↔ ∃ e, (s.cell i).entry = some e ∧ e.stamp = d) ∧
        shadowed.Nodup ∧ restored = shadowed.length ∧
        ∀ i, i ∈ shadowed ↔ ∃ e sh, (s.cell i).entry = some e ∧ e.stamp ≠ d ∧ e.shadow = some sh ∧ sh.depth = d

/-- R147, R108: the KEEP of depth d lowers stamps, shadows and issue depths of d by one, folds the shadows no longer
above their entry's stamp, and lowers the depth; no generation, winner or count changes. -/
def Obligations.KeepFoldsTheScope : Prop :=
  ∀ (s : State) (d : Nat), s.grantsService (.keep d) →
    ∃ (t : State) (stamped shadowed folded : List Slot),
      exec .keepWalk s = .next t ∧
        t =
          { s with
            table := t.table
            arbiter := { s.arbiter with rotation := .service, service := none }
            derive :=
              { s.derive with
                queue :=
                  s.derive.queue.map (fun q => if q.issueDepth = d then { q with issueDepth := d - 1 } else q) }
            depth := d - 1
            link :=
              { s.link with
                state :=
                  .replyReady
                    (.done
                      (.kept (d - 1) stamped.length shadowed.length folded.length
                        (s.derive.queue.filter (fun q => q.issueDepth == d)).length)) } } ∧
        (∀ i, (s.cell i).entry = none → t.cell i = s.cell i) ∧
        (∀ (i : Slot) (e : Entry) (stamp : Nat), (s.cell i).entry = some e →
          stamp = (if e.stamp = d then d - 1 else e.stamp) →
          t.cell i =
            { generation := (s.cell i).generation
              entry :=
                some
                  { e with
                    stamp := stamp
                    shadow := match e.shadow with
                      | none => none
                      | some sh =>
                        if sh.depth ≠ d then some sh
                        else if d - 1 ≤ stamp then none
                        else some { sh with depth := d - 1 } } }) ∧
        stamped.Nodup ∧ shadowed.Nodup ∧ folded.Nodup ∧
        (∀ i, i ∈ stamped ↔ ∃ e, (s.cell i).entry = some e ∧ e.stamp = d) ∧
        (∀ i, i ∈ shadowed ↔ ∃ e sh, (s.cell i).entry = some e ∧ e.shadow = some sh ∧ sh.depth = d) ∧
        ∀ i, i ∈ folded ↔
          i ∈ shadowed ∧ ∃ e, (t.cell i).entry = some e ∧ e.shadow = none

/-- R174, R175, R25, R42, R46, R65, R84, R88, R111, R124, R149: what the WALKs of RESTART and CLEAR TABLE leave. That CLEAR
TABLE makes the pending derivations absent is the model's reading of R106 and R111 against R88 (log entry 25). -/
def Obligations.RestartAndClearTableWalks : Prop :=
  (∀ s : State, s.grantsService .restart →
    ∃ (t : State) (gone : List Nat), exec .restartWalk s = .next t ∧
      gone = s.derive.queue.map (fun q => q.number) ∧
      t =
        { s with
          table := t.table
          arbiter := { rotation := .service, frame := none, service := none, derive := none, aging := none }
          matching :=
            { s.matching with
              frame := { s.matching.frame with staged := none }
              service :=
                { s.matching.service with
                  lastMatch := none, lastSeekKey := none, multiple := false, matchCount := 0 } }
          path :=
            { receiving := .idle, tag := none, zones := Vector.replicate 16 none, anchors := [], closing := .free
              lastAccepted := none }
          channels := t.channels
          port := { s.port with queue := [] }
          derive :=
            { s.derive with
              queue := []
              blends := s.derive.blends.map (Blend.without gone)
              waitingBlends := s.derive.waitingBlends.filter (Blend.startsWithout gone) }
          aging := { s.aging with pendingTicks := Vector.replicate 4 0, sweep := none }
          depth := 0
          notices :=
            { s.notices with causes := Vector.replicate 13 { pending := false, detail := 0 } }
          link := { s.link with state := .replyReady (.done .nothing) } } ∧
      (∀ c : Chan,
        t.channel c =
          { config := (s.channel c).config, winner := none, target := (s.channel c).delivered
            delivered := (s.channel c).delivered, glide := .steady, stepsRemaining := 0, nextStep := 0, lock := .free
            lockEnd := 0, switchCount := 0, windowEnd := none, pendingDerivation := none, lastOutcome := none
            heldOver := false }) ∧
      (s.depth = 0 → t.table = s.table) ∧ (∀ i, (s.cell i).entry = none → t.cell i = s.cell i) ∧
      (s.scopesHold →
        ∀ i e, (s.cell i).entry = some e →
          (e.stamp = 0 → e.shadow = none → t.cell i = s.cell i) ∧
            (∀ sh, e.stamp = 0 → e.shadow = some sh →
              t.cell i =
                { generation := nextGeneration (s.cell i).generation, entry := some (e.restored sh) }) ∧
            (e.stamp ≠ 0 →
              t.cell i =
                { generation :=
                    if e.shadow = none then nextGeneration (s.cell i).generation
                    else nextGeneration (nextGeneration (s.cell i).generation)
                  entry := none }))) ∧
    ∀ s : State, s.grantsService .clearTable →
      ∃ (t : State) (full : List Slot) (gone : List Nat), exec .clearTableWalk s = .next t ∧
        gone = s.derive.queue.map (fun q => q.number) ∧
        t =
          { s with
            table := t.table
            arbiter := { s.arbiter with rotation := .service, service := none, derive := none }
            matching :=
              { s.matching with
                service :=
                  { s.matching.service with
                    lastMatch := none, lastSeekKey := none, multiple := false, matchCount := 0 } }
            channels := t.channels
            derive :=
              { s.derive with
                queue := []
                blends := s.derive.blends.map (Blend.without gone)
                waitingBlends := s.derive.waitingBlends.filter (Blend.startsWithout gone) }
            link := { s.link with state := .replyReady (.done (.cleared full.length)) } } ∧
        (∀ i, t.cell i =
          if (s.cell i).entry = none then s.cell i
          else { generation := nextGeneration (s.cell i).generation, entry := none }) ∧
        (∀ c : Chan,
          t.channel c =
            { s.channel c with
              winner := (t.channel c).winner
              pendingDerivation := (t.channel c).pendingDerivation } ∧
            (∀ i, (t.channel c).winner = some i ↔
              (s.channel c).winner = some i ∧ (s.cell i).entry = none) ∧
            ∀ n, (t.channel c).pendingDerivation = some n ↔
              (s.channel c).pendingDerivation = some n ∧ n ∉ gone) ∧
        full.Nodup ∧ ∀ i, i ∈ full ↔ (s.cell i).entry ≠ none

/-! ### Select periods -/

/-- R165 to R168, R180: a FETCH of a waiting reply delivers it whole and frees the link, one cut short keeps it and
raises LINK_ERROR with detail 00h; a FETCH in any other period shifts out filler; a message cut short raises LINK_ERROR
with its code; one that cannot be decoded is answered REFUSED MALFORMED, with filler against the bytes after it; an aborted
period has no effect on the part. The bytes recorded as shifted out are log entries 9 and 14's, and which bytes follow a
message is log entry 27's. -/
def Obligations.PeriodsThatCarryNoRequest : Prop :=
  ∀ s : State, s.settled = true →
    exec .selectAborted s = .next { s with link := { s.link with out := [] } } ∧
      (s.lines.ready = true →
        (∀ (reply : Reply) (extra got : Nat), s.link.state = .replyReady reply →
            exec (.fetch .replyReady extra) s =
                .next
                  { s with
                    link := { state := .idle, out := 0x83 :: (reply.bytes ++ List.replicate extra 0xFF) } } ∧
              exec (.fetch .working extra) s =
                .next { s with link := { s.link with out := 0x82 :: List.replicate extra 0xFF } } ∧
              (got < reply.bytes.length →
                exec (.fetchCutShort got) s =
                  .next
                    { s with
                      link := { s.link with out := 0x83 :: reply.bytes.take got }
                      notices := s.notices.raised .linkError 0 })) ∧
          (∀ extra : Nat, s.link.state = .idle →
            exec (.fetch .idle extra) s =
              .next { s with link := { s.link with out := 0x81 :: List.replicate extra 0xFF } }) ∧
          (∀ (work : InWork) (extra : Nat), s.link.state = .working work →
            exec (.fetch .working extra) s =
              .next { s with link := { s.link with out := 0x82 :: List.replicate extra 0xFF } }) ∧
          (∀ code : Byte,
            exec (.messageDropped .working code) s = .next { s with link := { s.link with out := [0x82] } } ∧
              exec (.messageDropped .replyReady code) s = .next { s with link := { s.link with out := [0x83] } } ∧
              (s.link.state = .idle →
                exec (.messageCutShort code) s =
                    .next
                      { s with
                        link := { s.link with out := [0x81] }
                        notices := s.notices.raised .linkError code.toNat } ∧
                  exec (.malformed code) s = .next (s.answers (.refused .malformed)))))

/-- R180, R169, with R178's positions: the status byte; a reply's outcome, its length in two bytes, least significant
first, and what the length covers; the reasons; and the result fields of every request, each in its width and its order.
The bytes of the part code, the widths of some counts and the presence bytes of READ ENTRY and READ DERIVATIONS rest on log
entries 10, 11 and 12. -/
def Obligations.ReplyBytesFollowTheirLayout : Prop :=
  ∀ (le : Nat → Nat → List Byte) (opt : Option (List Byte) → List Byte) (list : List (List Byte) → List Byte)
    (signed : Int → List Byte) (key : Key → List Byte) (grade : Grade → List Byte) (state : SlotState → Nat),
    (∀ n, le 0 n = []) → (∀ k n, le (k + 1) n = BitVec.ofNat 8 n :: le k (n / 256)) →
      opt none = [0x00] → (∀ l, opt (some l) = 0x01 :: l) → (∀ l, list l = le 1 l.length ++ l.flatten) →
      (∀ x, signed x = le 2 (x % 65536).toNat) →
      (∀ k, key k = le 2 k.u ++ le 2 k.v ++ le 1 k.level ++ le 1 k.tag) →
      (∀ g, grade g =
        le 2 g.gR.toNat ++ le 2 g.gG.toNat ++ le 2 g.gB.toNat ++ signed g.m11 ++ signed g.m12 ++ signed g.m13 ++
          signed g.m21 ++ signed g.m22 ++ signed g.m23 ++ signed g.m31 ++ signed g.m32 ++ signed g.m33) →
      state .empty = 0 ∧ state .live = 1 ∧ state .held = 2 ∧ state .anchor = 3 →
      (statusByte .idle = 0x81 ∧ statusByte .working = 0x82 ∧ statusByte .replyReady = 0x83) ∧
        (∀ x : Reason,
          (Reply.refused x).bytes =
            (0x02 : Byte) :: (le 2 1 ++ le 1
              (match x with
                | .malformed => 1
                | .range => 2
                | .slotEmpty => 3
                | .slotOccupied => 4
                | .duplicate => 5
                | .stale => 6
                | .nested => 7
                | .scopeFull => 8
                | .noScope => 9
                | .noFree => 10
                | .wrongState => 11
                | .noMatch => 12))) ∧
        (∀ r : Results, (Reply.done r).bytes = (0x01 : Byte) :: (le 2 r.bytes.length ++ r.bytes)) ∧
        Results.bytes .nothing = [] ∧
        (∀ (i : Slot) g, Results.bytes (.slotGeneration i g) = le 2 i.val ++ le 2 g) ∧
        (∀ g, Results.bytes (.generation g) = le 2 g) ∧
        (∀ (p : Bool) g, Results.bytes (.pinGeneration p g) = le 1 p.toNat ++ le 2 g) ∧
        (∀ (f : Option Found) n (m : Bool),
          Results.bytes (.found f n m) =
            opt (f.map fun x => le 2 x.slot.val ++ le 1 (state x.state) ++ le 2 x.generation) ++ le 2 n ++
              le 1 m.toNat) ∧
        (∀ d, Results.bytes (.depth d) = le 1 d) ∧
        (∀ d a b c, Results.bytes (.dropped d a b c) = le 1 d ++ le 2 a ++ le 2 b ++ le 2 c) ∧
        (∀ d a b c e, Results.bytes (.kept d a b c e) = le 1 d ++ le 2 a ++ le 2 b ++ le 2 c ++ le 2 e) ∧
        (∀ n, Results.bytes (.cleared n) = le 2 n) ∧
        (∀ (d : ClassDescriptor) n,
          Results.bytes (.classDescriptor d n) =
            le 2 d.prescale ++ le 1 d.idleAt ++ le 1 d.dormantAt ++ le 1 d.retireAt ++ le 2 n) ∧
        (∀ u : NoticeUnit, ∃ pending < 8192,
          (∀ i : Fin 13, pending.testBit i.val = (u.causes[i] : Notice).pending) ∧
            Results.bytes (.causes u) =
              le 2 pending ++ ((List.finRange 13).map fun i => le 4 (u.causes[i] : Notice).detail).flatten ++
                le 2 u.mask.toNat) ∧
        (∀ (i : Slot) (c : Cell), c.entry = none →
          Results.bytes (.entry i c) = le 2 i.val ++ le 1 (state .empty) ++ le 2 c.generation) ∧
        (∀ (i : Slot) (c : Cell) (e : Entry), c.entry = some e →
          ∀ front : List Byte,
            front =
                le 2 i.val ++ le 1 (state e.state) ++ le 2 c.generation ++
                  le 1 (match e.origin with
                    | .authored => 0
                    | .learned _ _ => 1) ++
                  key e.key ++ le 1 e.stamp ++ le 1 e.pin.toNat ++ opt (e.shadow.map fun sh => le 1 sh.depth) →
            (∀ st x, e.body = .illuminant st x →
                Results.bytes (.entry i c) =
                  front ++ grade x.grade ++ le 1 x.cls.val ++
                    le 1 (match x.vigour with
                      | .active => 0
                      | .idle => 1
                      | .dormant => 2) ++
                    le 1 x.idleTicks ++ le 1 x.touched.toNat ++ le 2 x.takeovers ++ le 1 x.doubt ++
                    (match e.origin with
                      | .authored => []
                      | .learned parents n =>
                        opt (some (list (parents.map fun p => le 2 p.slot.val ++ le 2 p.generation))) ++ le 4 n)) ∧
              ∀ a, e.body = .anchor a →
                Results.bytes (.entry i c) =
                  front ++ le 2 a.supplied.reference.r ++ le 2 a.supplied.reference.g ++ le 2 a.supplied.reference.b ++
                    le 2 a.supplied.limits.tolerance ++ le 1 a.supplied.limits.streakLimit ++ le 1 a.failStreak ++
                    le 1 (match a.lastOutcome with
                      | .none => 0
                      | .pass => 1
                      | .fail => 2
                      | .deferred => 3)) ∧
        (∀ ch : Channel,
          Results.bytes (.channel ch) =
            le 1 ch.config.enabled.toNat ++ le 2 ch.config.zoneSet.toNat ++ le 1 ch.config.glideLength ++
              le 1 ch.config.pace ++ le 1 ch.config.flapLimit ++ le 2 ch.config.flapWindow ++
              le 1 ch.config.learn.toNat ++ le 1 ch.config.learnClass.val ++ le 2 ch.config.learnWeight ++
              opt (ch.winner.map fun i => le 2 i.val) ++ grade ch.target ++ grade ch.delivered ++
              le 1 (if ch.glide = .gliding then 1 else 0) ++ le 1 ch.stepsRemaining ++ le 5 ch.nextStep ++
              le 1 (if ch.lock = .locked then 1 else 0) ++ le 5 ch.lockEnd ++ le 2 ch.switchCount ++
              opt (ch.windowEnd.map (le 5)) ++ opt (ch.pendingDerivation.map (le 2)) ++
              opt (ch.lastOutcome.map fun o =>
                le 1 (match o with
                  | .matched => 0
                  | .miss => 1
                  | .dark => 2)) ++
              le 1 ch.heldOver.toNat) ∧
        (∀ r : DerivationReport,
          Results.bytes (.derivations r) =
            list (r.queue.map fun q =>
                le 2 q.number ++ le 1 q.channel.val ++ key q.key ++ le 2 q.weight ++ le 1 q.cls.val ++
                  le 1 q.issueDepth ++ le 4 q.issueFrame ++
                  le 1 (match q.stage with
                    | .waiting => 0
                    | .searching => 1
                    | .blending => 2
                    | .ready => 3) ++
                  le 1 q.rerunUsed.toNat ++
                  opt (q.parents.map fun l =>
                    list (l.map fun p => le 2 p.slot.val ++ le 2 p.generation ++ le 2 p.distance)) ++
                  opt (q.result.map grade)) ++
              le 1 r.reserve ++ le 1 r.evictionPermitted.toNat ++ le 2 r.nextNumber ++ le 1 r.blendsInProgress ++
              opt (r.lastEnding.map fun e =>
                le 2 e.number ++ le 1 e.channel.val ++ le 4 e.issueFrame ++
                  (match e.ending with
                    | .installed i => le 1 0 ++ opt (some (le 2 i.val))
                    | .redundant => le 1 1 ++ opt none
                    | .noParents => le 1 2 ++ opt none
                    | .stale => le 1 3 ++ opt none
                    | .full => le 1 4 ++ opt none))) ∧
        ∀ r : StatusReport,
          Results.bytes (.status r) =
            le 2 0xD512 ++ le 2 r.emptyCount ++ le 2 r.liveCount ++ le 2 r.heldCount ++ le 2 r.anchorCount ++
              opt (r.nextFree.map fun i => le 2 i.val) ++ opt (r.lastFree.map fun i => le 2 i.val) ++ le 1 r.depth ++
              le 1 r.queueLength ++ opt (r.lastAccepted.map (le 4)) ++
              le 1 (match r.receiving with
                | .idle => 0
                | .opened _ => 1
                | .discarding => 2) ++
              (match r.closing with
                | .free => le 1 0
                | .busy n => le 1 1 ++ le 4 n
                | .busyPending n m => le 1 2 ++ le 4 n ++ le 4 m) ++
              le 1 r.sweeping.toNat

/-! ### Encodings -/

/-- R177 to R179, R181: the request message of every well-formed request decodes to it, whatever bytes follow, and the
reading word of every reading word command decodes to it. -/
def Obligations.MessagesAndWordsDecodeToThemselves : Prop :=
  (∀ (i : Instr) (more : List Byte), i.wf = true → isRequest i = true →
    ∃ code fields, encodeMessage i = code :: fields ∧ code ≠ 0 ∧ parseMessage code (fields ++ more) = .got i more) ∧
    ∀ i : Instr, i.wf = true → isReadingWord i = true → decodeReadingWord (encodeReadingWord i) = i

/-! ### What every step keeps -/

/-- R79: a channel's winner, when present, is a slot whose state is LIVE. -/
def Obligations.StepKeepsWinnersLive : Prop :=
  ∀ s t : State, s.winnersLive → step s = .next t → t.winnersLive

/-- R9, R16, R138, R140, R142: no stamp, shadow depth or issue depth exceeds the scope depth, which is 0..3; every
shadow is above its entry's stamp; a waiting close is for the current depth; and SERVICE has an operation waiting exactly
when the link's request in work is one that waits for it. -/
def Obligations.StepKeepsScopes : Prop := ∀ s t : State, s.scopesHold → step s = .next t → t.scopesHold

/-- R50, R52, R82, R89, R90, R98, R106, R112, R115, R117: the derivation queue, the sweep, the capacities and the open
frame's number and tag keep what the spec says of them. -/
def Obligations.StepKeepsQueuesAndSweep : Prop :=
  ∀ s t : State, step s = .next t →
    (s.derivationsHold → t.derivationsHold ∧ t.derive.queue.length ≤ 4) ∧ (s.sweepHolds → t.sweepHolds) ∧
      (s.boundsHold → t.boundsHold) ∧ (s.openFrameHolds → t.openFrameHolds)

/-- R11, R76, R99: every grade the part holds stays within its range. -/
def Obligations.StepKeepsGradesInRange : Prop := ∀ s t : State, s.gradesHold → step s = .next t → t.gradesHold

/-- The invariants hold at power-on. -/
def Obligations.PowerOnMeetsTheInvariants : Prop :=
  State.reset.winnersLive ∧ State.reset.scopesHold ∧ State.reset.derivationsHold ∧ State.reset.sweepHolds ∧
    State.reset.boundsHold ∧ State.reset.openFrameHolds ∧ State.reset.gradesHold

/-- R17, R22, R23: next free is the lowest EMPTY slot and last free the highest, both absent when none is EMPTY; each count
is the number of slots in its state, and the four make 512; a generation's increment from 65535 gives 1. -/
def Obligations.FreeEndsCountsAndGenerations : Prop :=
  (∀ s : State,
    (s.nextFree = none ↔ ∀ i, (s.cell i).state ≠ .empty) ∧ (s.lastFree = none ↔ ∀ i, (s.cell i).state ≠ .empty) ∧
      (∀ i, s.nextFree = some i ↔ (s.cell i).state = .empty ∧ ∀ j, (s.cell j).state = .empty → i ≤ j) ∧
      (∀ i, s.lastFree = some i ↔ (s.cell i).state = .empty ∧ ∀ j, (s.cell j).state = .empty → j ≤ i) ∧
      (∀ st, ∃ l : List Slot, l.Nodup ∧ (∀ i, i ∈ l ↔ (s.cell i).state = st) ∧ s.countOf st = l.length) ∧
      s.countOf .empty + s.countOf .live + s.countOf .held + s.countOf .anchor = 512) ∧
    nextGeneration 65535 = 1 ∧ ∀ g, g < 65535 → nextGeneration g = g + 1
end

