-- ==== Sys2Proof/Laws/State.lean ====
section
/-!
SUPPORT. What each update of State does to each field: one lemma per field per update, true by rfl.
-/
namespace Sys2Proof.Machine

/-! ### setCell -/

@[simp] theorem State.setCell_lines (s : State) (i : Slot) (c : Cell) : (s.setCell i c).lines = s.lines := rfl
@[simp] theorem State.setCell_table (s : State) (i : Slot) (c : Cell) :
    (s.setCell i c).table = s.table.set i c := rfl
@[simp] theorem State.setCell_arbiter (s : State) (i : Slot) (c : Cell) : (s.setCell i c).arbiter = s.arbiter := rfl
@[simp] theorem State.setCell_matching (s : State) (i : Slot) (c : Cell) :
    (s.setCell i c).matching = s.matching := rfl
@[simp] theorem State.setCell_path (s : State) (i : Slot) (c : Cell) : (s.setCell i c).path = s.path := rfl
@[simp] theorem State.setCell_channels (s : State) (i : Slot) (c : Cell) :
    (s.setCell i c).channels = s.channels := rfl
@[simp] theorem State.setCell_port (s : State) (i : Slot) (c : Cell) : (s.setCell i c).port = s.port := rfl
@[simp] theorem State.setCell_derive (s : State) (i : Slot) (c : Cell) : (s.setCell i c).derive = s.derive := rfl
@[simp] theorem State.setCell_aging (s : State) (i : Slot) (c : Cell) : (s.setCell i c).aging = s.aging := rfl
@[simp] theorem State.setCell_depth (s : State) (i : Slot) (c : Cell) : (s.setCell i c).depth = s.depth := rfl
@[simp] theorem State.setCell_link (s : State) (i : Slot) (c : Cell) : (s.setCell i c).link = s.link := rfl
@[simp] theorem State.setCell_notices (s : State) (i : Slot) (c : Cell) : (s.setCell i c).notices = s.notices := rfl
@[simp] theorem State.setCell_pending (s : State) (i : Slot) (c : Cell) : (s.setCell i c).pending = s.pending := rfl
@[simp] theorem State.setCell_trailing (s : State) (i : Slot) (c : Cell) :
    (s.setCell i c).trailing = s.trailing := rfl

/-! ### mapCells -/

@[simp] theorem State.mapCells_lines (s : State) (f : Slot → Cell → Cell) : (s.mapCells f).lines = s.lines := rfl
@[simp] theorem State.mapCells_table (s : State) (f : Slot → Cell → Cell) :
    (s.mapCells f).table = Vec.mapIdx f s.table := rfl
@[simp] theorem State.mapCells_arbiter (s : State) (f : Slot → Cell → Cell) :
    (s.mapCells f).arbiter = s.arbiter := rfl
@[simp] theorem State.mapCells_matching (s : State) (f : Slot → Cell → Cell) :
    (s.mapCells f).matching = s.matching := rfl
@[simp] theorem State.mapCells_path (s : State) (f : Slot → Cell → Cell) : (s.mapCells f).path = s.path := rfl
@[simp] theorem State.mapCells_channels (s : State) (f : Slot → Cell → Cell) :
    (s.mapCells f).channels = s.channels := rfl
@[simp] theorem State.mapCells_port (s : State) (f : Slot → Cell → Cell) : (s.mapCells f).port = s.port := rfl
@[simp] theorem State.mapCells_derive (s : State) (f : Slot → Cell → Cell) : (s.mapCells f).derive = s.derive := rfl
@[simp] theorem State.mapCells_aging (s : State) (f : Slot → Cell → Cell) : (s.mapCells f).aging = s.aging := rfl
@[simp] theorem State.mapCells_depth (s : State) (f : Slot → Cell → Cell) : (s.mapCells f).depth = s.depth := rfl
@[simp] theorem State.mapCells_link (s : State) (f : Slot → Cell → Cell) : (s.mapCells f).link = s.link := rfl
@[simp] theorem State.mapCells_notices (s : State) (f : Slot → Cell → Cell) :
    (s.mapCells f).notices = s.notices := rfl
@[simp] theorem State.mapCells_pending (s : State) (f : Slot → Cell → Cell) :
    (s.mapCells f).pending = s.pending := rfl
@[simp] theorem State.mapCells_trailing (s : State) (f : Slot → Cell → Cell) :
    (s.mapCells f).trailing = s.trailing := rfl

/-! ### setChannel -/

@[simp] theorem State.setChannel_lines (s : State) (c : Chan) (ch : Channel) :
    (s.setChannel c ch).lines = s.lines := rfl
@[simp] theorem State.setChannel_table (s : State) (c : Chan) (ch : Channel) :
    (s.setChannel c ch).table = s.table := rfl
@[simp] theorem State.setChannel_arbiter (s : State) (c : Chan) (ch : Channel) :
    (s.setChannel c ch).arbiter = s.arbiter := rfl
@[simp] theorem State.setChannel_matching (s : State) (c : Chan) (ch : Channel) :
    (s.setChannel c ch).matching = s.matching := rfl
@[simp] theorem State.setChannel_path (s : State) (c : Chan) (ch : Channel) :
    (s.setChannel c ch).path = s.path := rfl
@[simp] theorem State.setChannel_channels (s : State) (c : Chan) (ch : Channel) :
    (s.setChannel c ch).channels = s.channels.set c ch := rfl
@[simp] theorem State.setChannel_port (s : State) (c : Chan) (ch : Channel) :
    (s.setChannel c ch).port = s.port := rfl
@[simp] theorem State.setChannel_derive (s : State) (c : Chan) (ch : Channel) :
    (s.setChannel c ch).derive = s.derive := rfl
@[simp] theorem State.setChannel_aging (s : State) (c : Chan) (ch : Channel) :
    (s.setChannel c ch).aging = s.aging := rfl
@[simp] theorem State.setChannel_depth (s : State) (c : Chan) (ch : Channel) :
    (s.setChannel c ch).depth = s.depth := rfl
@[simp] theorem State.setChannel_link (s : State) (c : Chan) (ch : Channel) :
    (s.setChannel c ch).link = s.link := rfl
@[simp] theorem State.setChannel_notices (s : State) (c : Chan) (ch : Channel) :
    (s.setChannel c ch).notices = s.notices := rfl
@[simp] theorem State.setChannel_pending (s : State) (c : Chan) (ch : Channel) :
    (s.setChannel c ch).pending = s.pending := rfl
@[simp] theorem State.setChannel_trailing (s : State) (c : Chan) (ch : Channel) :
    (s.setChannel c ch).trailing = s.trailing := rfl

/-! ### mapChannels -/

@[simp] theorem State.mapChannels_lines (s : State) (f : Channel → Channel) :
    (s.mapChannels f).lines = s.lines := rfl
@[simp] theorem State.mapChannels_table (s : State) (f : Channel → Channel) :
    (s.mapChannels f).table = s.table := rfl
@[simp] theorem State.mapChannels_arbiter (s : State) (f : Channel → Channel) :
    (s.mapChannels f).arbiter = s.arbiter := rfl
@[simp] theorem State.mapChannels_matching (s : State) (f : Channel → Channel) :
    (s.mapChannels f).matching = s.matching := rfl
@[simp] theorem State.mapChannels_path (s : State) (f : Channel → Channel) : (s.mapChannels f).path = s.path := rfl
@[simp] theorem State.mapChannels_channels (s : State) (f : Channel → Channel) :
    (s.mapChannels f).channels = Vec.mapIdx (fun _ ch => f ch) s.channels := rfl
@[simp] theorem State.mapChannels_port (s : State) (f : Channel → Channel) : (s.mapChannels f).port = s.port := rfl
@[simp] theorem State.mapChannels_derive (s : State) (f : Channel → Channel) :
    (s.mapChannels f).derive = s.derive := rfl
@[simp] theorem State.mapChannels_aging (s : State) (f : Channel → Channel) :
    (s.mapChannels f).aging = s.aging := rfl
@[simp] theorem State.mapChannels_depth (s : State) (f : Channel → Channel) :
    (s.mapChannels f).depth = s.depth := rfl
@[simp] theorem State.mapChannels_link (s : State) (f : Channel → Channel) : (s.mapChannels f).link = s.link := rfl
@[simp] theorem State.mapChannels_notices (s : State) (f : Channel → Channel) :
    (s.mapChannels f).notices = s.notices := rfl
@[simp] theorem State.mapChannels_pending (s : State) (f : Channel → Channel) :
    (s.mapChannels f).pending = s.pending := rfl
@[simp] theorem State.mapChannels_trailing (s : State) (f : Channel → Channel) :
    (s.mapChannels f).trailing = s.trailing := rfl

/-! ### clearWinners -/

@[simp] theorem State.clearWinners_lines (s : State) (gone : Slot → Bool) :
    (s.clearWinners gone).lines = s.lines := rfl
@[simp] theorem State.clearWinners_table (s : State) (gone : Slot → Bool) :
    (s.clearWinners gone).table = s.table := rfl
@[simp] theorem State.clearWinners_arbiter (s : State) (gone : Slot → Bool) :
    (s.clearWinners gone).arbiter = s.arbiter := rfl
@[simp] theorem State.clearWinners_matching (s : State) (gone : Slot → Bool) :
    (s.clearWinners gone).matching = s.matching := rfl
@[simp] theorem State.clearWinners_path (s : State) (gone : Slot → Bool) : (s.clearWinners gone).path = s.path := rfl
@[simp] theorem State.clearWinners_channels (s : State) (gone : Slot → Bool) :
    (s.clearWinners gone).channels = Vec.mapIdx (fun _ ch => Channel.loseWinner gone ch) s.channels := rfl
@[simp] theorem State.clearWinners_port (s : State) (gone : Slot → Bool) : (s.clearWinners gone).port = s.port := rfl
@[simp] theorem State.clearWinners_derive (s : State) (gone : Slot → Bool) :
    (s.clearWinners gone).derive = s.derive := rfl
@[simp] theorem State.clearWinners_aging (s : State) (gone : Slot → Bool) :
    (s.clearWinners gone).aging = s.aging := rfl
@[simp] theorem State.clearWinners_depth (s : State) (gone : Slot → Bool) :
    (s.clearWinners gone).depth = s.depth := rfl
@[simp] theorem State.clearWinners_link (s : State) (gone : Slot → Bool) : (s.clearWinners gone).link = s.link := rfl
@[simp] theorem State.clearWinners_notices (s : State) (gone : Slot → Bool) :
    (s.clearWinners gone).notices = s.notices := rfl
@[simp] theorem State.clearWinners_pending (s : State) (gone : Slot → Bool) :
    (s.clearWinners gone).pending = s.pending := rfl
@[simp] theorem State.clearWinners_trailing (s : State) (gone : Slot → Bool) :
    (s.clearWinners gone).trailing = s.trailing := rfl

/-! ### retire -/

@[simp] theorem State.retire_lines (s : State) (i : Slot) : (s.retire i).lines = s.lines := rfl
@[simp] theorem State.retire_table (s : State) (i : Slot) :
    (s.retire i).table = s.table.set i (s.cell i).retired := rfl
@[simp] theorem State.retire_arbiter (s : State) (i : Slot) : (s.retire i).arbiter = s.arbiter := rfl
@[simp] theorem State.retire_matching (s : State) (i : Slot) : (s.retire i).matching = s.matching := rfl
@[simp] theorem State.retire_path (s : State) (i : Slot) : (s.retire i).path = s.path := rfl
@[simp] theorem State.retire_channels (s : State) (i : Slot) :
    (s.retire i).channels = Vec.mapIdx (fun _ ch => Channel.loseWinner (fun j => j == i) ch) s.channels := rfl
@[simp] theorem State.retire_port (s : State) (i : Slot) : (s.retire i).port = s.port := rfl
@[simp] theorem State.retire_derive (s : State) (i : Slot) : (s.retire i).derive = s.derive := rfl
@[simp] theorem State.retire_aging (s : State) (i : Slot) : (s.retire i).aging = s.aging := rfl
@[simp] theorem State.retire_depth (s : State) (i : Slot) : (s.retire i).depth = s.depth := rfl
@[simp] theorem State.retire_link (s : State) (i : Slot) : (s.retire i).link = s.link := rfl
@[simp] theorem State.retire_notices (s : State) (i : Slot) : (s.retire i).notices = s.notices := rfl
@[simp] theorem State.retire_pending (s : State) (i : Slot) : (s.retire i).pending = s.pending := rfl
@[simp] theorem State.retire_trailing (s : State) (i : Slot) : (s.retire i).trailing = s.trailing := rfl

/-! ### grantFrame -/

@[simp] theorem State.grantFrame_lines (s : State) : (s.grantFrame).lines = s.lines := rfl
@[simp] theorem State.grantFrame_table (s : State) : (s.grantFrame).table = s.table := rfl
@[simp] theorem State.grantFrame_arbiter (s : State) :
    (s.grantFrame).arbiter = { s.arbiter with rotation := .frame, frame := none } := rfl
@[simp] theorem State.grantFrame_matching (s : State) : (s.grantFrame).matching = s.matching := rfl
@[simp] theorem State.grantFrame_path (s : State) : (s.grantFrame).path = s.path := rfl
@[simp] theorem State.grantFrame_channels (s : State) : (s.grantFrame).channels = s.channels := rfl
@[simp] theorem State.grantFrame_port (s : State) : (s.grantFrame).port = s.port := rfl
@[simp] theorem State.grantFrame_derive (s : State) : (s.grantFrame).derive = s.derive := rfl
@[simp] theorem State.grantFrame_aging (s : State) : (s.grantFrame).aging = s.aging := rfl
@[simp] theorem State.grantFrame_depth (s : State) : (s.grantFrame).depth = s.depth := rfl
@[simp] theorem State.grantFrame_link (s : State) : (s.grantFrame).link = s.link := rfl
@[simp] theorem State.grantFrame_notices (s : State) : (s.grantFrame).notices = s.notices := rfl
@[simp] theorem State.grantFrame_pending (s : State) : (s.grantFrame).pending = s.pending := rfl
@[simp] theorem State.grantFrame_trailing (s : State) : (s.grantFrame).trailing = s.trailing := rfl

/-! ### grantService -/

@[simp] theorem State.grantService_lines (s : State) : (s.grantService).lines = s.lines := rfl
@[simp] theorem State.grantService_table (s : State) : (s.grantService).table = s.table := rfl
@[simp] theorem State.grantService_arbiter (s : State) :
    (s.grantService).arbiter = { s.arbiter with rotation := .service, service := none } := rfl
@[simp] theorem State.grantService_matching (s : State) : (s.grantService).matching = s.matching := rfl
@[simp] theorem State.grantService_path (s : State) : (s.grantService).path = s.path := rfl
@[simp] theorem State.grantService_channels (s : State) : (s.grantService).channels = s.channels := rfl
@[simp] theorem State.grantService_port (s : State) : (s.grantService).port = s.port := rfl
@[simp] theorem State.grantService_derive (s : State) : (s.grantService).derive = s.derive := rfl
@[simp] theorem State.grantService_aging (s : State) : (s.grantService).aging = s.aging := rfl
@[simp] theorem State.grantService_depth (s : State) : (s.grantService).depth = s.depth := rfl
@[simp] theorem State.grantService_link (s : State) : (s.grantService).link = s.link := rfl
@[simp] theorem State.grantService_notices (s : State) : (s.grantService).notices = s.notices := rfl
@[simp] theorem State.grantService_pending (s : State) : (s.grantService).pending = s.pending := rfl
@[simp] theorem State.grantService_trailing (s : State) : (s.grantService).trailing = s.trailing := rfl

/-! ### grantDerive -/

@[simp] theorem State.grantDerive_lines (s : State) : (s.grantDerive).lines = s.lines := rfl
@[simp] theorem State.grantDerive_table (s : State) : (s.grantDerive).table = s.table := rfl
@[simp] theorem State.grantDerive_arbiter (s : State) :
    (s.grantDerive).arbiter = { s.arbiter with rotation := .derive, derive := none } := rfl
@[simp] theorem State.grantDerive_matching (s : State) : (s.grantDerive).matching = s.matching := rfl
@[simp] theorem State.grantDerive_path (s : State) : (s.grantDerive).path = s.path := rfl
@[simp] theorem State.grantDerive_channels (s : State) : (s.grantDerive).channels = s.channels := rfl
@[simp] theorem State.grantDerive_port (s : State) : (s.grantDerive).port = s.port := rfl
@[simp] theorem State.grantDerive_derive (s : State) : (s.grantDerive).derive = s.derive := rfl
@[simp] theorem State.grantDerive_aging (s : State) : (s.grantDerive).aging = s.aging := rfl
@[simp] theorem State.grantDerive_depth (s : State) : (s.grantDerive).depth = s.depth := rfl
@[simp] theorem State.grantDerive_link (s : State) : (s.grantDerive).link = s.link := rfl
@[simp] theorem State.grantDerive_notices (s : State) : (s.grantDerive).notices = s.notices := rfl
@[simp] theorem State.grantDerive_pending (s : State) : (s.grantDerive).pending = s.pending := rfl
@[simp] theorem State.grantDerive_trailing (s : State) : (s.grantDerive).trailing = s.trailing := rfl

/-! ### grantAging -/

@[simp] theorem State.grantAging_lines (s : State) : (s.grantAging).lines = s.lines := rfl
@[simp] theorem State.grantAging_table (s : State) : (s.grantAging).table = s.table := rfl
@[simp] theorem State.grantAging_arbiter (s : State) :
    (s.grantAging).arbiter = { s.arbiter with rotation := .aging, aging := none } := rfl
@[simp] theorem State.grantAging_matching (s : State) : (s.grantAging).matching = s.matching := rfl
@[simp] theorem State.grantAging_path (s : State) : (s.grantAging).path = s.path := rfl
@[simp] theorem State.grantAging_channels (s : State) : (s.grantAging).channels = s.channels := rfl
@[simp] theorem State.grantAging_port (s : State) : (s.grantAging).port = s.port := rfl
@[simp] theorem State.grantAging_derive (s : State) : (s.grantAging).derive = s.derive := rfl
@[simp] theorem State.grantAging_aging (s : State) : (s.grantAging).aging = s.aging := rfl
@[simp] theorem State.grantAging_depth (s : State) : (s.grantAging).depth = s.depth := rfl
@[simp] theorem State.grantAging_link (s : State) : (s.grantAging).link = s.link := rfl
@[simp] theorem State.grantAging_notices (s : State) : (s.grantAging).notices = s.notices := rfl
@[simp] theorem State.grantAging_pending (s : State) : (s.grantAging).pending = s.pending := rfl
@[simp] theorem State.grantAging_trailing (s : State) : (s.grantAging).trailing = s.trailing := rfl

/-! ### submitFrame -/

@[simp] theorem State.submitFrame_lines (s : State) (op : FrameOp) : (s.submitFrame op).lines = s.lines := rfl
@[simp] theorem State.submitFrame_table (s : State) (op : FrameOp) : (s.submitFrame op).table = s.table := rfl
@[simp] theorem State.submitFrame_arbiter (s : State) (op : FrameOp) :
    (s.submitFrame op).arbiter = { s.arbiter with frame := some op } := rfl
@[simp] theorem State.submitFrame_matching (s : State) (op : FrameOp) :
    (s.submitFrame op).matching = s.matching := rfl
@[simp] theorem State.submitFrame_path (s : State) (op : FrameOp) : (s.submitFrame op).path = s.path := rfl
@[simp] theorem State.submitFrame_channels (s : State) (op : FrameOp) :
    (s.submitFrame op).channels = s.channels := rfl
@[simp] theorem State.submitFrame_port (s : State) (op : FrameOp) : (s.submitFrame op).port = s.port := rfl
@[simp] theorem State.submitFrame_derive (s : State) (op : FrameOp) : (s.submitFrame op).derive = s.derive := rfl
@[simp] theorem State.submitFrame_aging (s : State) (op : FrameOp) : (s.submitFrame op).aging = s.aging := rfl
@[simp] theorem State.submitFrame_depth (s : State) (op : FrameOp) : (s.submitFrame op).depth = s.depth := rfl
@[simp] theorem State.submitFrame_link (s : State) (op : FrameOp) : (s.submitFrame op).link = s.link := rfl
@[simp] theorem State.submitFrame_notices (s : State) (op : FrameOp) : (s.submitFrame op).notices = s.notices := rfl
@[simp] theorem State.submitFrame_pending (s : State) (op : FrameOp) : (s.submitFrame op).pending = s.pending := rfl
@[simp] theorem State.submitFrame_trailing (s : State) (op : FrameOp) :
    (s.submitFrame op).trailing = s.trailing := rfl

/-! ### submitDerive -/

@[simp] theorem State.submitDerive_lines (s : State) (op : DeriveOp) : (s.submitDerive op).lines = s.lines := rfl
@[simp] theorem State.submitDerive_table (s : State) (op : DeriveOp) : (s.submitDerive op).table = s.table := rfl
@[simp] theorem State.submitDerive_arbiter (s : State) (op : DeriveOp) :
    (s.submitDerive op).arbiter = { s.arbiter with derive := some op } := rfl
@[simp] theorem State.submitDerive_matching (s : State) (op : DeriveOp) :
    (s.submitDerive op).matching = s.matching := rfl
@[simp] theorem State.submitDerive_path (s : State) (op : DeriveOp) : (s.submitDerive op).path = s.path := rfl
@[simp] theorem State.submitDerive_channels (s : State) (op : DeriveOp) :
    (s.submitDerive op).channels = s.channels := rfl
@[simp] theorem State.submitDerive_port (s : State) (op : DeriveOp) : (s.submitDerive op).port = s.port := rfl
@[simp] theorem State.submitDerive_derive (s : State) (op : DeriveOp) : (s.submitDerive op).derive = s.derive := rfl
@[simp] theorem State.submitDerive_aging (s : State) (op : DeriveOp) : (s.submitDerive op).aging = s.aging := rfl
@[simp] theorem State.submitDerive_depth (s : State) (op : DeriveOp) : (s.submitDerive op).depth = s.depth := rfl
@[simp] theorem State.submitDerive_link (s : State) (op : DeriveOp) : (s.submitDerive op).link = s.link := rfl
@[simp] theorem State.submitDerive_notices (s : State) (op : DeriveOp) :
    (s.submitDerive op).notices = s.notices := rfl
@[simp] theorem State.submitDerive_pending (s : State) (op : DeriveOp) :
    (s.submitDerive op).pending = s.pending := rfl
@[simp] theorem State.submitDerive_trailing (s : State) (op : DeriveOp) :
    (s.submitDerive op).trailing = s.trailing := rfl

/-! ### submitAging -/

@[simp] theorem State.submitAging_lines (s : State) (b : Block) : (s.submitAging b).lines = s.lines := rfl
@[simp] theorem State.submitAging_table (s : State) (b : Block) : (s.submitAging b).table = s.table := rfl
@[simp] theorem State.submitAging_arbiter (s : State) (b : Block) :
    (s.submitAging b).arbiter = { s.arbiter with aging := some b } := rfl
@[simp] theorem State.submitAging_matching (s : State) (b : Block) : (s.submitAging b).matching = s.matching := rfl
@[simp] theorem State.submitAging_path (s : State) (b : Block) : (s.submitAging b).path = s.path := rfl
@[simp] theorem State.submitAging_channels (s : State) (b : Block) : (s.submitAging b).channels = s.channels := rfl
@[simp] theorem State.submitAging_port (s : State) (b : Block) : (s.submitAging b).port = s.port := rfl
@[simp] theorem State.submitAging_derive (s : State) (b : Block) : (s.submitAging b).derive = s.derive := rfl
@[simp] theorem State.submitAging_aging (s : State) (b : Block) : (s.submitAging b).aging = s.aging := rfl
@[simp] theorem State.submitAging_depth (s : State) (b : Block) : (s.submitAging b).depth = s.depth := rfl
@[simp] theorem State.submitAging_link (s : State) (b : Block) : (s.submitAging b).link = s.link := rfl
@[simp] theorem State.submitAging_notices (s : State) (b : Block) : (s.submitAging b).notices = s.notices := rfl
@[simp] theorem State.submitAging_pending (s : State) (b : Block) : (s.submitAging b).pending = s.pending := rfl
@[simp] theorem State.submitAging_trailing (s : State) (b : Block) : (s.submitAging b).trailing = s.trailing := rfl

/-! ### submitService -/

@[simp] theorem State.submitService_lines (s : State) (op : ServiceOp) : (s.submitService op).lines = s.lines := rfl
@[simp] theorem State.submitService_table (s : State) (op : ServiceOp) : (s.submitService op).table = s.table := rfl
@[simp] theorem State.submitService_arbiter (s : State) (op : ServiceOp) :
    (s.submitService op).arbiter = { s.arbiter with service := some op } := rfl
@[simp] theorem State.submitService_matching (s : State) (op : ServiceOp) :
    (s.submitService op).matching = s.matching := rfl
@[simp] theorem State.submitService_path (s : State) (op : ServiceOp) : (s.submitService op).path = s.path := rfl
@[simp] theorem State.submitService_channels (s : State) (op : ServiceOp) :
    (s.submitService op).channels = s.channels := rfl
@[simp] theorem State.submitService_port (s : State) (op : ServiceOp) : (s.submitService op).port = s.port := rfl
@[simp] theorem State.submitService_derive (s : State) (op : ServiceOp) :
    (s.submitService op).derive = s.derive := rfl
@[simp] theorem State.submitService_aging (s : State) (op : ServiceOp) : (s.submitService op).aging = s.aging := rfl
@[simp] theorem State.submitService_depth (s : State) (op : ServiceOp) : (s.submitService op).depth = s.depth := rfl
@[simp] theorem State.submitService_link (s : State) (op : ServiceOp) :
    (s.submitService op).link = { s.link with state := .working .operation } := rfl
@[simp] theorem State.submitService_notices (s : State) (op : ServiceOp) :
    (s.submitService op).notices = s.notices := rfl
@[simp] theorem State.submitService_pending (s : State) (op : ServiceOp) :
    (s.submitService op).pending = s.pending := rfl
@[simp] theorem State.submitService_trailing (s : State) (op : ServiceOp) :
    (s.submitService op).trailing = s.trailing := rfl

/-! ### raise -/

@[simp] theorem State.raise_lines (s : State) (x : Cause) (n : Nat) : (s.raise x n).lines = s.lines := rfl
@[simp] theorem State.raise_table (s : State) (x : Cause) (n : Nat) : (s.raise x n).table = s.table := rfl
@[simp] theorem State.raise_arbiter (s : State) (x : Cause) (n : Nat) : (s.raise x n).arbiter = s.arbiter := rfl
@[simp] theorem State.raise_matching (s : State) (x : Cause) (n : Nat) : (s.raise x n).matching = s.matching := rfl
@[simp] theorem State.raise_path (s : State) (x : Cause) (n : Nat) : (s.raise x n).path = s.path := rfl
@[simp] theorem State.raise_channels (s : State) (x : Cause) (n : Nat) : (s.raise x n).channels = s.channels := rfl
@[simp] theorem State.raise_port (s : State) (x : Cause) (n : Nat) : (s.raise x n).port = s.port := rfl
@[simp] theorem State.raise_derive (s : State) (x : Cause) (n : Nat) : (s.raise x n).derive = s.derive := rfl
@[simp] theorem State.raise_aging (s : State) (x : Cause) (n : Nat) : (s.raise x n).aging = s.aging := rfl
@[simp] theorem State.raise_depth (s : State) (x : Cause) (n : Nat) : (s.raise x n).depth = s.depth := rfl
@[simp] theorem State.raise_link (s : State) (x : Cause) (n : Nat) : (s.raise x n).link = s.link := rfl
@[simp] theorem State.raise_notices (s : State) (x : Cause) (n : Nat) :
    (s.raise x n).notices =
      { s.notices with causes := s.notices.causes.set x.index { pending := true, detail := n } } := rfl
@[simp] theorem State.raise_pending (s : State) (x : Cause) (n : Nat) : (s.raise x n).pending = s.pending := rfl
@[simp] theorem State.raise_trailing (s : State) (x : Cause) (n : Nat) : (s.raise x n).trailing = s.trailing := rfl

/-! ### setService -/

@[simp] theorem State.setService_lines (s : State) (x : ServiceContext) : (s.setService x).lines = s.lines := rfl
@[simp] theorem State.setService_table (s : State) (x : ServiceContext) : (s.setService x).table = s.table := rfl
@[simp] theorem State.setService_arbiter (s : State) (x : ServiceContext) :
    (s.setService x).arbiter = s.arbiter := rfl
@[simp] theorem State.setService_matching (s : State) (x : ServiceContext) :
    (s.setService x).matching = { s.matching with service := x } := rfl
@[simp] theorem State.setService_path (s : State) (x : ServiceContext) : (s.setService x).path = s.path := rfl
@[simp] theorem State.setService_channels (s : State) (x : ServiceContext) :
    (s.setService x).channels = s.channels := rfl
@[simp] theorem State.setService_port (s : State) (x : ServiceContext) : (s.setService x).port = s.port := rfl
@[simp] theorem State.setService_derive (s : State) (x : ServiceContext) : (s.setService x).derive = s.derive := rfl
@[simp] theorem State.setService_aging (s : State) (x : ServiceContext) : (s.setService x).aging = s.aging := rfl
@[simp] theorem State.setService_depth (s : State) (x : ServiceContext) : (s.setService x).depth = s.depth := rfl
@[simp] theorem State.setService_link (s : State) (x : ServiceContext) : (s.setService x).link = s.link := rfl
@[simp] theorem State.setService_notices (s : State) (x : ServiceContext) :
    (s.setService x).notices = s.notices := rfl
@[simp] theorem State.setService_pending (s : State) (x : ServiceContext) :
    (s.setService x).pending = s.pending := rfl
@[simp] theorem State.setService_trailing (s : State) (x : ServiceContext) :
    (s.setService x).trailing = s.trailing := rfl

/-! ### setDerive -/

@[simp] theorem State.setDerive_lines (s : State) (d : DerivationUnit) : (s.setDerive d).lines = s.lines := rfl
@[simp] theorem State.setDerive_table (s : State) (d : DerivationUnit) : (s.setDerive d).table = s.table := rfl
@[simp] theorem State.setDerive_arbiter (s : State) (d : DerivationUnit) : (s.setDerive d).arbiter = s.arbiter := rfl
@[simp] theorem State.setDerive_matching (s : State) (d : DerivationUnit) :
    (s.setDerive d).matching = s.matching := rfl
@[simp] theorem State.setDerive_path (s : State) (d : DerivationUnit) : (s.setDerive d).path = s.path := rfl
@[simp] theorem State.setDerive_channels (s : State) (d : DerivationUnit) :
    (s.setDerive d).channels = s.channels := rfl
@[simp] theorem State.setDerive_port (s : State) (d : DerivationUnit) : (s.setDerive d).port = s.port := rfl
@[simp] theorem State.setDerive_derive (s : State) (d : DerivationUnit) : (s.setDerive d).derive = d := rfl
@[simp] theorem State.setDerive_aging (s : State) (d : DerivationUnit) : (s.setDerive d).aging = s.aging := rfl
@[simp] theorem State.setDerive_depth (s : State) (d : DerivationUnit) : (s.setDerive d).depth = s.depth := rfl
@[simp] theorem State.setDerive_link (s : State) (d : DerivationUnit) : (s.setDerive d).link = s.link := rfl
@[simp] theorem State.setDerive_notices (s : State) (d : DerivationUnit) : (s.setDerive d).notices = s.notices := rfl
@[simp] theorem State.setDerive_pending (s : State) (d : DerivationUnit) : (s.setDerive d).pending = s.pending := rfl
@[simp] theorem State.setDerive_trailing (s : State) (d : DerivationUnit) :
    (s.setDerive d).trailing = s.trailing := rfl

/-! ### setQueue -/

@[simp] theorem State.setQueue_lines (s : State) (q : List Derivation) : (s.setQueue q).lines = s.lines := rfl
@[simp] theorem State.setQueue_table (s : State) (q : List Derivation) : (s.setQueue q).table = s.table := rfl
@[simp] theorem State.setQueue_arbiter (s : State) (q : List Derivation) : (s.setQueue q).arbiter = s.arbiter := rfl
@[simp] theorem State.setQueue_matching (s : State) (q : List Derivation) :
    (s.setQueue q).matching = s.matching := rfl
@[simp] theorem State.setQueue_path (s : State) (q : List Derivation) : (s.setQueue q).path = s.path := rfl
@[simp] theorem State.setQueue_channels (s : State) (q : List Derivation) :
    (s.setQueue q).channels = s.channels := rfl
@[simp] theorem State.setQueue_port (s : State) (q : List Derivation) : (s.setQueue q).port = s.port := rfl
@[simp] theorem State.setQueue_derive (s : State) (q : List Derivation) :
    (s.setQueue q).derive = { s.derive with queue := q } := rfl
@[simp] theorem State.setQueue_aging (s : State) (q : List Derivation) : (s.setQueue q).aging = s.aging := rfl
@[simp] theorem State.setQueue_depth (s : State) (q : List Derivation) : (s.setQueue q).depth = s.depth := rfl
@[simp] theorem State.setQueue_link (s : State) (q : List Derivation) : (s.setQueue q).link = s.link := rfl
@[simp] theorem State.setQueue_notices (s : State) (q : List Derivation) : (s.setQueue q).notices = s.notices := rfl
@[simp] theorem State.setQueue_pending (s : State) (q : List Derivation) : (s.setQueue q).pending = s.pending := rfl
@[simp] theorem State.setQueue_trailing (s : State) (q : List Derivation) :
    (s.setQueue q).trailing = s.trailing := rfl

/-! ### setPendingDerivation -/

@[simp] theorem State.setPendingDerivation_lines (s : State) (c : Chan) (n : Nat) :
    (s.setPendingDerivation c n).lines = s.lines := rfl
@[simp] theorem State.setPendingDerivation_table (s : State) (c : Chan) (n : Nat) :
    (s.setPendingDerivation c n).table = s.table := rfl
@[simp] theorem State.setPendingDerivation_arbiter (s : State) (c : Chan) (n : Nat) :
    (s.setPendingDerivation c n).arbiter = s.arbiter := rfl
@[simp] theorem State.setPendingDerivation_matching (s : State) (c : Chan) (n : Nat) :
    (s.setPendingDerivation c n).matching = s.matching := rfl
@[simp] theorem State.setPendingDerivation_path (s : State) (c : Chan) (n : Nat) :
    (s.setPendingDerivation c n).path = s.path := rfl
@[simp] theorem State.setPendingDerivation_channels (s : State) (c : Chan) (n : Nat) :
    (s.setPendingDerivation c n).channels = s.channels.set c { s.channel c with pendingDerivation := some n } := rfl
@[simp] theorem State.setPendingDerivation_port (s : State) (c : Chan) (n : Nat) :
    (s.setPendingDerivation c n).port = s.port := rfl
@[simp] theorem State.setPendingDerivation_derive (s : State) (c : Chan) (n : Nat) :
    (s.setPendingDerivation c n).derive = s.derive := rfl
@[simp] theorem State.setPendingDerivation_aging (s : State) (c : Chan) (n : Nat) :
    (s.setPendingDerivation c n).aging = s.aging := rfl
@[simp] theorem State.setPendingDerivation_depth (s : State) (c : Chan) (n : Nat) :
    (s.setPendingDerivation c n).depth = s.depth := rfl
@[simp] theorem State.setPendingDerivation_link (s : State) (c : Chan) (n : Nat) :
    (s.setPendingDerivation c n).link = s.link := rfl
@[simp] theorem State.setPendingDerivation_notices (s : State) (c : Chan) (n : Nat) :
    (s.setPendingDerivation c n).notices = s.notices := rfl
@[simp] theorem State.setPendingDerivation_pending (s : State) (c : Chan) (n : Nat) :
    (s.setPendingDerivation c n).pending = s.pending := rfl
@[simp] theorem State.setPendingDerivation_trailing (s : State) (c : Chan) (n : Nat) :
    (s.setPendingDerivation c n).trailing = s.trailing := rfl

/-! ### setAging -/

@[simp] theorem State.setAging_lines (s : State) (a : AgingUnit) : (s.setAging a).lines = s.lines := rfl
@[simp] theorem State.setAging_table (s : State) (a : AgingUnit) : (s.setAging a).table = s.table := rfl
@[simp] theorem State.setAging_arbiter (s : State) (a : AgingUnit) : (s.setAging a).arbiter = s.arbiter := rfl
@[simp] theorem State.setAging_matching (s : State) (a : AgingUnit) : (s.setAging a).matching = s.matching := rfl
@[simp] theorem State.setAging_path (s : State) (a : AgingUnit) : (s.setAging a).path = s.path := rfl
@[simp] theorem State.setAging_channels (s : State) (a : AgingUnit) : (s.setAging a).channels = s.channels := rfl
@[simp] theorem State.setAging_port (s : State) (a : AgingUnit) : (s.setAging a).port = s.port := rfl
@[simp] theorem State.setAging_derive (s : State) (a : AgingUnit) : (s.setAging a).derive = s.derive := rfl
@[simp] theorem State.setAging_aging (s : State) (a : AgingUnit) : (s.setAging a).aging = a := rfl
@[simp] theorem State.setAging_depth (s : State) (a : AgingUnit) : (s.setAging a).depth = s.depth := rfl
@[simp] theorem State.setAging_link (s : State) (a : AgingUnit) : (s.setAging a).link = s.link := rfl
@[simp] theorem State.setAging_notices (s : State) (a : AgingUnit) : (s.setAging a).notices = s.notices := rfl
@[simp] theorem State.setAging_pending (s : State) (a : AgingUnit) : (s.setAging a).pending = s.pending := rfl
@[simp] theorem State.setAging_trailing (s : State) (a : AgingUnit) : (s.setAging a).trailing = s.trailing := rfl

/-! ### setPath -/

@[simp] theorem State.setPath_lines (s : State) (p : FramePath) : (s.setPath p).lines = s.lines := rfl
@[simp] theorem State.setPath_table (s : State) (p : FramePath) : (s.setPath p).table = s.table := rfl
@[simp] theorem State.setPath_arbiter (s : State) (p : FramePath) : (s.setPath p).arbiter = s.arbiter := rfl
@[simp] theorem State.setPath_matching (s : State) (p : FramePath) : (s.setPath p).matching = s.matching := rfl
@[simp] theorem State.setPath_path (s : State) (p : FramePath) : (s.setPath p).path = p := rfl
@[simp] theorem State.setPath_channels (s : State) (p : FramePath) : (s.setPath p).channels = s.channels := rfl
@[simp] theorem State.setPath_port (s : State) (p : FramePath) : (s.setPath p).port = s.port := rfl
@[simp] theorem State.setPath_derive (s : State) (p : FramePath) : (s.setPath p).derive = s.derive := rfl
@[simp] theorem State.setPath_aging (s : State) (p : FramePath) : (s.setPath p).aging = s.aging := rfl
@[simp] theorem State.setPath_depth (s : State) (p : FramePath) : (s.setPath p).depth = s.depth := rfl
@[simp] theorem State.setPath_link (s : State) (p : FramePath) : (s.setPath p).link = s.link := rfl
@[simp] theorem State.setPath_notices (s : State) (p : FramePath) : (s.setPath p).notices = s.notices := rfl
@[simp] theorem State.setPath_pending (s : State) (p : FramePath) : (s.setPath p).pending = s.pending := rfl
@[simp] theorem State.setPath_trailing (s : State) (p : FramePath) : (s.setPath p).trailing = s.trailing := rfl

/-! ### setClosing -/

@[simp] theorem State.setClosing_lines (s : State) (c : Closing) : (s.setClosing c).lines = s.lines := rfl
@[simp] theorem State.setClosing_table (s : State) (c : Closing) : (s.setClosing c).table = s.table := rfl
@[simp] theorem State.setClosing_arbiter (s : State) (c : Closing) : (s.setClosing c).arbiter = s.arbiter := rfl
@[simp] theorem State.setClosing_matching (s : State) (c : Closing) : (s.setClosing c).matching = s.matching := rfl
@[simp] theorem State.setClosing_path (s : State) (c : Closing) :
    (s.setClosing c).path = { s.path with closing := c } := rfl
@[simp] theorem State.setClosing_channels (s : State) (c : Closing) : (s.setClosing c).channels = s.channels := rfl
@[simp] theorem State.setClosing_port (s : State) (c : Closing) : (s.setClosing c).port = s.port := rfl
@[simp] theorem State.setClosing_derive (s : State) (c : Closing) : (s.setClosing c).derive = s.derive := rfl
@[simp] theorem State.setClosing_aging (s : State) (c : Closing) : (s.setClosing c).aging = s.aging := rfl
@[simp] theorem State.setClosing_depth (s : State) (c : Closing) : (s.setClosing c).depth = s.depth := rfl
@[simp] theorem State.setClosing_link (s : State) (c : Closing) : (s.setClosing c).link = s.link := rfl
@[simp] theorem State.setClosing_notices (s : State) (c : Closing) : (s.setClosing c).notices = s.notices := rfl
@[simp] theorem State.setClosing_pending (s : State) (c : Closing) : (s.setClosing c).pending = s.pending := rfl
@[simp] theorem State.setClosing_trailing (s : State) (c : Closing) : (s.setClosing c).trailing = s.trailing := rfl

/-! ### setDepth -/

@[simp] theorem State.setDepth_lines (s : State) (d : Nat) : (s.setDepth d).lines = s.lines := rfl
@[simp] theorem State.setDepth_table (s : State) (d : Nat) : (s.setDepth d).table = s.table := rfl
@[simp] theorem State.setDepth_arbiter (s : State) (d : Nat) : (s.setDepth d).arbiter = s.arbiter := rfl
@[simp] theorem State.setDepth_matching (s : State) (d : Nat) : (s.setDepth d).matching = s.matching := rfl
@[simp] theorem State.setDepth_path (s : State) (d : Nat) : (s.setDepth d).path = s.path := rfl
@[simp] theorem State.setDepth_channels (s : State) (d : Nat) : (s.setDepth d).channels = s.channels := rfl
@[simp] theorem State.setDepth_port (s : State) (d : Nat) : (s.setDepth d).port = s.port := rfl
@[simp] theorem State.setDepth_derive (s : State) (d : Nat) : (s.setDepth d).derive = s.derive := rfl
@[simp] theorem State.setDepth_aging (s : State) (d : Nat) : (s.setDepth d).aging = s.aging := rfl
@[simp] theorem State.setDepth_depth (s : State) (d : Nat) : (s.setDepth d).depth = d := rfl
@[simp] theorem State.setDepth_link (s : State) (d : Nat) : (s.setDepth d).link = s.link := rfl
@[simp] theorem State.setDepth_notices (s : State) (d : Nat) : (s.setDepth d).notices = s.notices := rfl
@[simp] theorem State.setDepth_pending (s : State) (d : Nat) : (s.setDepth d).pending = s.pending := rfl
@[simp] theorem State.setDepth_trailing (s : State) (d : Nat) : (s.setDepth d).trailing = s.trailing := rfl

/-! ### setLink -/

@[simp] theorem State.setLink_lines (s : State) (l : ControlLink) : (s.setLink l).lines = s.lines := rfl
@[simp] theorem State.setLink_table (s : State) (l : ControlLink) : (s.setLink l).table = s.table := rfl
@[simp] theorem State.setLink_arbiter (s : State) (l : ControlLink) : (s.setLink l).arbiter = s.arbiter := rfl
@[simp] theorem State.setLink_matching (s : State) (l : ControlLink) : (s.setLink l).matching = s.matching := rfl
@[simp] theorem State.setLink_path (s : State) (l : ControlLink) : (s.setLink l).path = s.path := rfl
@[simp] theorem State.setLink_channels (s : State) (l : ControlLink) : (s.setLink l).channels = s.channels := rfl
@[simp] theorem State.setLink_port (s : State) (l : ControlLink) : (s.setLink l).port = s.port := rfl
@[simp] theorem State.setLink_derive (s : State) (l : ControlLink) : (s.setLink l).derive = s.derive := rfl
@[simp] theorem State.setLink_aging (s : State) (l : ControlLink) : (s.setLink l).aging = s.aging := rfl
@[simp] theorem State.setLink_depth (s : State) (l : ControlLink) : (s.setLink l).depth = s.depth := rfl
@[simp] theorem State.setLink_link (s : State) (l : ControlLink) : (s.setLink l).link = l := rfl
@[simp] theorem State.setLink_notices (s : State) (l : ControlLink) : (s.setLink l).notices = s.notices := rfl
@[simp] theorem State.setLink_pending (s : State) (l : ControlLink) : (s.setLink l).pending = s.pending := rfl
@[simp] theorem State.setLink_trailing (s : State) (l : ControlLink) : (s.setLink l).trailing = s.trailing := rfl

/-! ### period -/

@[simp] theorem State.period_lines (s : State) (shown : LinkStatus) (tail : List Byte) :
    (s.period shown tail).lines = s.lines := rfl
@[simp] theorem State.period_table (s : State) (shown : LinkStatus) (tail : List Byte) :
    (s.period shown tail).table = s.table := rfl
@[simp] theorem State.period_arbiter (s : State) (shown : LinkStatus) (tail : List Byte) :
    (s.period shown tail).arbiter = s.arbiter := rfl
@[simp] theorem State.period_matching (s : State) (shown : LinkStatus) (tail : List Byte) :
    (s.period shown tail).matching = s.matching := rfl
@[simp] theorem State.period_path (s : State) (shown : LinkStatus) (tail : List Byte) :
    (s.period shown tail).path = s.path := rfl
@[simp] theorem State.period_channels (s : State) (shown : LinkStatus) (tail : List Byte) :
    (s.period shown tail).channels = s.channels := rfl
@[simp] theorem State.period_port (s : State) (shown : LinkStatus) (tail : List Byte) :
    (s.period shown tail).port = s.port := rfl
@[simp] theorem State.period_derive (s : State) (shown : LinkStatus) (tail : List Byte) :
    (s.period shown tail).derive = s.derive := rfl
@[simp] theorem State.period_aging (s : State) (shown : LinkStatus) (tail : List Byte) :
    (s.period shown tail).aging = s.aging := rfl
@[simp] theorem State.period_depth (s : State) (shown : LinkStatus) (tail : List Byte) :
    (s.period shown tail).depth = s.depth := rfl
@[simp] theorem State.period_link (s : State) (shown : LinkStatus) (tail : List Byte) :
    (s.period shown tail).link = { s.link with out := statusByte shown :: tail } := rfl
@[simp] theorem State.period_notices (s : State) (shown : LinkStatus) (tail : List Byte) :
    (s.period shown tail).notices = s.notices := rfl
@[simp] theorem State.period_pending (s : State) (shown : LinkStatus) (tail : List Byte) :
    (s.period shown tail).pending = s.pending := rfl
@[simp] theorem State.period_trailing (s : State) (shown : LinkStatus) (tail : List Byte) :
    (s.period shown tail).trailing = s.trailing := rfl

/-! ### ignoredPeriod -/

@[simp] theorem State.ignoredPeriod_lines (s : State) : (s.ignoredPeriod).lines = s.lines := rfl
@[simp] theorem State.ignoredPeriod_table (s : State) : (s.ignoredPeriod).table = s.table := rfl
@[simp] theorem State.ignoredPeriod_arbiter (s : State) : (s.ignoredPeriod).arbiter = s.arbiter := rfl
@[simp] theorem State.ignoredPeriod_matching (s : State) : (s.ignoredPeriod).matching = s.matching := rfl
@[simp] theorem State.ignoredPeriod_path (s : State) : (s.ignoredPeriod).path = s.path := rfl
@[simp] theorem State.ignoredPeriod_channels (s : State) : (s.ignoredPeriod).channels = s.channels := rfl
@[simp] theorem State.ignoredPeriod_port (s : State) : (s.ignoredPeriod).port = s.port := rfl
@[simp] theorem State.ignoredPeriod_derive (s : State) : (s.ignoredPeriod).derive = s.derive := rfl
@[simp] theorem State.ignoredPeriod_aging (s : State) : (s.ignoredPeriod).aging = s.aging := rfl
@[simp] theorem State.ignoredPeriod_depth (s : State) : (s.ignoredPeriod).depth = s.depth := rfl
@[simp] theorem State.ignoredPeriod_link (s : State) : (s.ignoredPeriod).link = { s.link with out := [] } := rfl
@[simp] theorem State.ignoredPeriod_notices (s : State) : (s.ignoredPeriod).notices = s.notices := rfl
@[simp] theorem State.ignoredPeriod_pending (s : State) : (s.ignoredPeriod).pending = s.pending := rfl
@[simp] theorem State.ignoredPeriod_trailing (s : State) : (s.ignoredPeriod).trailing = s.trailing := rfl

/-! ### deliverWord -/

@[simp] theorem State.deliverWord_lines (s : State) : (s.deliverWord).lines = s.lines := rfl
@[simp] theorem State.deliverWord_table (s : State) : (s.deliverWord).table = s.table := rfl
@[simp] theorem State.deliverWord_arbiter (s : State) : (s.deliverWord).arbiter = s.arbiter := rfl
@[simp] theorem State.deliverWord_matching (s : State) : (s.deliverWord).matching = s.matching := rfl
@[simp] theorem State.deliverWord_path (s : State) : (s.deliverWord).path = s.path := rfl
@[simp] theorem State.deliverWord_channels (s : State) : (s.deliverWord).channels = s.channels := rfl
@[simp] theorem State.deliverWord_port (s : State) : (s.deliverWord).port = s.port.advance := rfl
@[simp] theorem State.deliverWord_derive (s : State) : (s.deliverWord).derive = s.derive := rfl
@[simp] theorem State.deliverWord_aging (s : State) : (s.deliverWord).aging = s.aging := rfl
@[simp] theorem State.deliverWord_depth (s : State) : (s.deliverWord).depth = s.depth := rfl
@[simp] theorem State.deliverWord_link (s : State) : (s.deliverWord).link = s.link := rfl
@[simp] theorem State.deliverWord_notices (s : State) : (s.deliverWord).notices = s.notices := rfl
@[simp] theorem State.deliverWord_pending (s : State) : (s.deliverWord).pending = s.pending := rfl
@[simp] theorem State.deliverWord_trailing (s : State) : (s.deliverWord).trailing = s.trailing := rfl

/-! ### reply -/

@[simp] theorem State.reply_lines (s : State) (r : Reply) : (s.reply r).lines = s.lines := rfl
@[simp] theorem State.reply_table (s : State) (r : Reply) : (s.reply r).table = s.table := rfl
@[simp] theorem State.reply_arbiter (s : State) (r : Reply) : (s.reply r).arbiter = s.arbiter := rfl
@[simp] theorem State.reply_matching (s : State) (r : Reply) : (s.reply r).matching = s.matching := rfl
@[simp] theorem State.reply_path (s : State) (r : Reply) : (s.reply r).path = s.path := rfl
@[simp] theorem State.reply_channels (s : State) (r : Reply) : (s.reply r).channels = s.channels := rfl
@[simp] theorem State.reply_port (s : State) (r : Reply) : (s.reply r).port = s.port := rfl
@[simp] theorem State.reply_derive (s : State) (r : Reply) : (s.reply r).derive = s.derive := rfl
@[simp] theorem State.reply_aging (s : State) (r : Reply) : (s.reply r).aging = s.aging := rfl
@[simp] theorem State.reply_depth (s : State) (r : Reply) : (s.reply r).depth = s.depth := rfl
@[simp] theorem State.reply_link (s : State) (r : Reply) :
    (s.reply r).link = { s.link with state := .replyReady r } := rfl
@[simp] theorem State.reply_notices (s : State) (r : Reply) : (s.reply r).notices = s.notices := rfl
@[simp] theorem State.reply_pending (s : State) (r : Reply) : (s.reply r).pending = s.pending := rfl
@[simp] theorem State.reply_trailing (s : State) (r : Reply) : (s.reply r).trailing = s.trailing := rfl

/-! ### Updates that depend on the state -/

@[simp] theorem State.moveCursor_lines (s : State) (b : Bool) : (s.moveCursor b).lines = s.lines := by
  unfold State.moveCursor; split <;> rfl
@[simp] theorem State.moveCursor_table (s : State) (b : Bool) : (s.moveCursor b).table = s.table := by
  unfold State.moveCursor; split <;> rfl
@[simp] theorem State.moveCursor_arbiter (s : State) (b : Bool) : (s.moveCursor b).arbiter = s.arbiter := by
  unfold State.moveCursor; split <;> rfl
@[simp] theorem State.moveCursor_path (s : State) (b : Bool) : (s.moveCursor b).path = s.path := by
  unfold State.moveCursor; split <;> rfl
@[simp] theorem State.moveCursor_channels (s : State) (b : Bool) : (s.moveCursor b).channels = s.channels := by
  unfold State.moveCursor; split <;> rfl
@[simp] theorem State.moveCursor_port (s : State) (b : Bool) : (s.moveCursor b).port = s.port := by
  unfold State.moveCursor; split <;> rfl
@[simp] theorem State.moveCursor_derive (s : State) (b : Bool) : (s.moveCursor b).derive = s.derive := by
  unfold State.moveCursor; split <;> rfl
@[simp] theorem State.moveCursor_aging (s : State) (b : Bool) : (s.moveCursor b).aging = s.aging := by
  unfold State.moveCursor; split <;> rfl
@[simp] theorem State.moveCursor_depth (s : State) (b : Bool) : (s.moveCursor b).depth = s.depth := by
  unfold State.moveCursor; split <;> rfl
@[simp] theorem State.moveCursor_link (s : State) (b : Bool) : (s.moveCursor b).link = s.link := by
  unfold State.moveCursor; split <;> rfl
@[simp] theorem State.moveCursor_notices (s : State) (b : Bool) : (s.moveCursor b).notices = s.notices := by
  unfold State.moveCursor; split <;> rfl
@[simp] theorem State.moveCursor_pending (s : State) (b : Bool) : (s.moveCursor b).pending = s.pending := by
  unfold State.moveCursor; split <;> rfl
@[simp] theorem State.moveCursor_trailing (s : State) (b : Bool) : (s.moveCursor b).trailing = s.trailing := by
  unfold State.moveCursor; split <;> rfl

@[simp] theorem State.emit_lines (s : State) (r : GradeRecord) : (s.emit r).lines = s.lines := by
  unfold State.emit; split <;> rfl
@[simp] theorem State.emit_table (s : State) (r : GradeRecord) : (s.emit r).table = s.table := by
  unfold State.emit; split <;> rfl
@[simp] theorem State.emit_arbiter (s : State) (r : GradeRecord) : (s.emit r).arbiter = s.arbiter := by
  unfold State.emit; split <;> rfl
@[simp] theorem State.emit_matching (s : State) (r : GradeRecord) : (s.emit r).matching = s.matching := by
  unfold State.emit; split <;> rfl
@[simp] theorem State.emit_path (s : State) (r : GradeRecord) : (s.emit r).path = s.path := by
  unfold State.emit; split <;> rfl
@[simp] theorem State.emit_channels (s : State) (r : GradeRecord) : (s.emit r).channels = s.channels := by
  unfold State.emit; split <;> rfl
@[simp] theorem State.emit_derive (s : State) (r : GradeRecord) : (s.emit r).derive = s.derive := by
  unfold State.emit; split <;> rfl
@[simp] theorem State.emit_aging (s : State) (r : GradeRecord) : (s.emit r).aging = s.aging := by
  unfold State.emit; split <;> rfl
@[simp] theorem State.emit_depth (s : State) (r : GradeRecord) : (s.emit r).depth = s.depth := by
  unfold State.emit; split <;> rfl
@[simp] theorem State.emit_link (s : State) (r : GradeRecord) : (s.emit r).link = s.link := by
  unfold State.emit; split <;> rfl
@[simp] theorem State.emit_pending (s : State) (r : GradeRecord) : (s.emit r).pending = s.pending := by
  unfold State.emit; split <;> rfl
@[simp] theorem State.emit_trailing (s : State) (r : GradeRecord) : (s.emit r).trailing = s.trailing := by
  unfold State.emit; split <;> rfl

end Sys2Proof.Machine
end

