-- ==== Sys2Proof/Laws/Ops.lean ====
section
/-!
SUPPORT. What the named operations do to one slot, one channel and the arbiter: the lemmas later proofs cite instead of
unfolding the operations.
-/
namespace Sys2Proof.Machine

/-! ### Vectors, slots and channels -/

/-- One element of a rewritten vector. -/
@[simp] theorem Vec.getElem_mapIdx {α β : Type} {n : Nat} (f : Fin n → α → β) (v : Vector α n) (i : Fin n) :
    (Vec.mapIdx f v)[i] = f i v[i] := by
  simp [Vec.mapIdx]

/-- Reading a slot after one slot is written. -/
theorem State.cell_setCell (s : State) (i j : Slot) (c : Cell) :
    (s.setCell i c).cell j = if j = i then c else s.cell j := by
  by_cases h : j = i
  · subst h; simp [State.cell]
  · have : i.val ≠ j.val := fun e => h (Fin.ext e.symm)
    simp [State.cell, h, Vector.getElem_set_ne, this]

/-- Reading the slot that was written. -/
@[simp] theorem State.cell_setCell_self (s : State) (i : Slot) (c : Cell) : (s.setCell i c).cell i = c := by
  simp [State.cell_setCell]

/-- Reading a slot after a walk. -/
@[simp] theorem State.cell_mapCells (s : State) (f : Slot → Cell → Cell) (i : Slot) :
    (s.mapCells f).cell i = f i (s.cell i) := by
  unfold State.cell; rw [State.mapCells_table]; exact Vec.getElem_mapIdx f s.table i

/-- Reading a slot after a retirement. -/
theorem State.cell_retire (s : State) (i j : Slot) :
    (s.retire i).cell j = if j = i then (s.cell i).retired else s.cell j := by
  have h : (s.retire i).cell j = (s.setCell i (s.cell i).retired).cell j := rfl
  rw [h, State.cell_setCell]

/-- Reading a channel after one channel is written. -/
theorem State.channel_setChannel (s : State) (c d : Chan) (ch : Channel) :
    (s.setChannel c ch).channel d = if d = c then ch else s.channel d := by
  by_cases h : d = c
  · subst h; simp [State.channel]
  · have : c.val ≠ d.val := fun e => h (Fin.ext e.symm)
    simp [State.channel, h, Vector.getElem_set_ne, this]

/-- Reading the channel that was written. -/
@[simp] theorem State.channel_setChannel_self (s : State) (c : Chan) (ch : Channel) :
    (s.setChannel c ch).channel c = ch := by
  simp [State.channel_setChannel]

/-- Reading a channel after every channel is rewritten. -/
@[simp] theorem State.channel_mapChannels (s : State) (f : Channel → Channel) (c : Chan) :
    (s.mapChannels f).channel c = f (s.channel c) := by
  unfold State.channel; rw [State.mapChannels_channels]; exact Vec.getElem_mapIdx _ s.channels c

/-- Reading a channel after winners are cleared. -/
@[simp] theorem State.channel_clearWinners (s : State) (gone : Slot → Bool) (c : Chan) :
    (s.clearWinners gone).channel c = Channel.loseWinner gone (s.channel c) :=
  State.channel_mapChannels s _ c

/-- Reading a channel after a retirement. -/
@[simp] theorem State.channel_retire (s : State) (i : Slot) (c : Chan) :
    (s.retire i).channel c = Channel.loseWinner (fun j => j == i) (s.channel c) := by
  unfold State.retire; rw [State.channel_clearWinners]; rfl

/-- Two states with the same table agree on every slot. -/
theorem State.cell_congr {s t : State} (h : t.table = s.table) (i : Slot) : t.cell i = s.cell i := by
  unfold State.cell; rw [h]

/-- Two states with the same channels agree on every channel. -/
theorem State.channel_congr {s t : State} (h : t.channels = s.channels) (c : Chan) : t.channel c = s.channel c := by
  unfold State.channel; rw [h]

/-! ### Updates that leave every slot, or every channel, as it stands -/

@[simp] theorem State.channel_setCell (s : State) (i : Slot) (c : Cell) (k : Chan) :
    (s.setCell i c).channel k = s.channel k := rfl
@[simp] theorem State.channel_mapCells (s : State) (f : Slot → Cell → Cell) (k : Chan) :
    (s.mapCells f).channel k = s.channel k := rfl
@[simp] theorem State.cell_setChannel (s : State) (c : Chan) (ch : Channel) (k : Slot) :
    (s.setChannel c ch).cell k = s.cell k := rfl
@[simp] theorem State.cell_mapChannels (s : State) (f : Channel → Channel) (k : Slot) :
    (s.mapChannels f).cell k = s.cell k := rfl
@[simp] theorem State.cell_clearWinners (s : State) (gone : Slot → Bool) (k : Slot) :
    (s.clearWinners gone).cell k = s.cell k := rfl
@[simp] theorem State.cell_grantFrame (s : State) (k : Slot) : (s.grantFrame).cell k = s.cell k := rfl
@[simp] theorem State.channel_grantFrame (s : State) (k : Chan) : (s.grantFrame).channel k = s.channel k := rfl
@[simp] theorem State.cell_grantService (s : State) (k : Slot) : (s.grantService).cell k = s.cell k := rfl
@[simp] theorem State.channel_grantService (s : State) (k : Chan) : (s.grantService).channel k = s.channel k := rfl
@[simp] theorem State.cell_grantDerive (s : State) (k : Slot) : (s.grantDerive).cell k = s.cell k := rfl
@[simp] theorem State.channel_grantDerive (s : State) (k : Chan) : (s.grantDerive).channel k = s.channel k := rfl
@[simp] theorem State.cell_grantAging (s : State) (k : Slot) : (s.grantAging).cell k = s.cell k := rfl
@[simp] theorem State.channel_grantAging (s : State) (k : Chan) : (s.grantAging).channel k = s.channel k := rfl
@[simp] theorem State.cell_submitFrame (s : State) (op : FrameOp) (k : Slot) :
    (s.submitFrame op).cell k = s.cell k := rfl
@[simp] theorem State.channel_submitFrame (s : State) (op : FrameOp) (k : Chan) :
    (s.submitFrame op).channel k = s.channel k := rfl
@[simp] theorem State.cell_submitDerive (s : State) (op : DeriveOp) (k : Slot) :
    (s.submitDerive op).cell k = s.cell k := rfl
@[simp] theorem State.channel_submitDerive (s : State) (op : DeriveOp) (k : Chan) :
    (s.submitDerive op).channel k = s.channel k := rfl
@[simp] theorem State.cell_submitAging (s : State) (b : Block) (k : Slot) : (s.submitAging b).cell k = s.cell k := rfl
@[simp] theorem State.channel_submitAging (s : State) (b : Block) (k : Chan) :
    (s.submitAging b).channel k = s.channel k := rfl
@[simp] theorem State.cell_submitService (s : State) (op : ServiceOp) (k : Slot) :
    (s.submitService op).cell k = s.cell k := rfl
@[simp] theorem State.channel_submitService (s : State) (op : ServiceOp) (k : Chan) :
    (s.submitService op).channel k = s.channel k := rfl
@[simp] theorem State.cell_raise (s : State) (x : Cause) (n : Nat) (k : Slot) : (s.raise x n).cell k = s.cell k := rfl
@[simp] theorem State.channel_raise (s : State) (x : Cause) (n : Nat) (k : Chan) :
    (s.raise x n).channel k = s.channel k := rfl
@[simp] theorem State.cell_setService (s : State) (x : ServiceContext) (k : Slot) :
    (s.setService x).cell k = s.cell k := rfl
@[simp] theorem State.channel_setService (s : State) (x : ServiceContext) (k : Chan) :
    (s.setService x).channel k = s.channel k := rfl
@[simp] theorem State.cell_setDerive (s : State) (d : DerivationUnit) (k : Slot) :
    (s.setDerive d).cell k = s.cell k := rfl
@[simp] theorem State.channel_setDerive (s : State) (d : DerivationUnit) (k : Chan) :
    (s.setDerive d).channel k = s.channel k := rfl
@[simp] theorem State.cell_setQueue (s : State) (q : List Derivation) (k : Slot) :
    (s.setQueue q).cell k = s.cell k := rfl
@[simp] theorem State.channel_setQueue (s : State) (q : List Derivation) (k : Chan) :
    (s.setQueue q).channel k = s.channel k := rfl
@[simp] theorem State.cell_setPendingDerivation (s : State) (c : Chan) (n : Nat) (k : Slot) :
    (s.setPendingDerivation c n).cell k = s.cell k := rfl
@[simp] theorem State.cell_setAging (s : State) (a : AgingUnit) (k : Slot) : (s.setAging a).cell k = s.cell k := rfl
@[simp] theorem State.channel_setAging (s : State) (a : AgingUnit) (k : Chan) :
    (s.setAging a).channel k = s.channel k := rfl
@[simp] theorem State.cell_setPath (s : State) (p : FramePath) (k : Slot) : (s.setPath p).cell k = s.cell k := rfl
@[simp] theorem State.channel_setPath (s : State) (p : FramePath) (k : Chan) :
    (s.setPath p).channel k = s.channel k := rfl
@[simp] theorem State.cell_setClosing (s : State) (c : Closing) (k : Slot) : (s.setClosing c).cell k = s.cell k := rfl
@[simp] theorem State.channel_setClosing (s : State) (c : Closing) (k : Chan) :
    (s.setClosing c).channel k = s.channel k := rfl
@[simp] theorem State.cell_setDepth (s : State) (d : Nat) (k : Slot) : (s.setDepth d).cell k = s.cell k := rfl
@[simp] theorem State.channel_setDepth (s : State) (d : Nat) (k : Chan) : (s.setDepth d).channel k = s.channel k := rfl
@[simp] theorem State.cell_setLink (s : State) (l : ControlLink) (k : Slot) : (s.setLink l).cell k = s.cell k := rfl
@[simp] theorem State.channel_setLink (s : State) (l : ControlLink) (k : Chan) :
    (s.setLink l).channel k = s.channel k := rfl
@[simp] theorem State.cell_period (s : State) (shown : LinkStatus) (tail : List Byte) (k : Slot) :
    (s.period shown tail).cell k = s.cell k := rfl
@[simp] theorem State.channel_period (s : State) (shown : LinkStatus) (tail : List Byte) (k : Chan) :
    (s.period shown tail).channel k = s.channel k := rfl
@[simp] theorem State.cell_ignoredPeriod (s : State) (k : Slot) : (s.ignoredPeriod).cell k = s.cell k := rfl
@[simp] theorem State.channel_ignoredPeriod (s : State) (k : Chan) : (s.ignoredPeriod).channel k = s.channel k := rfl
@[simp] theorem State.cell_reply (s : State) (r : Reply) (k : Slot) : (s.reply r).cell k = s.cell k := rfl
@[simp] theorem State.channel_reply (s : State) (r : Reply) (k : Chan) : (s.reply r).channel k = s.channel k := rfl

/-- A record handed to the Grade Port changes no slot. -/
@[simp] theorem State.cell_emit (s : State) (r : GradeRecord) (k : Slot) : (s.emit r).cell k = s.cell k :=
  State.cell_congr (State.emit_table s r) k

/-- A record handed to the Grade Port changes no channel. -/
@[simp] theorem State.channel_emit (s : State) (r : GradeRecord) (k : Chan) : (s.emit r).channel k = s.channel k :=
  State.channel_congr (State.emit_channels s r) k

/-- The cursor's move changes no slot. -/
@[simp] theorem State.cell_moveCursor (s : State) (b : Bool) (k : Slot) : (s.moveCursor b).cell k = s.cell k :=
  State.cell_congr (State.moveCursor_table s b) k

@[simp] theorem State.cell_deliverWord (s : State) (k : Slot) : (s.deliverWord).cell k = s.cell k := rfl
@[simp] theorem State.channel_deliverWord (s : State) (k : Chan) : (s.deliverWord).channel k = s.channel k := rfl

/-! ### The slots in order (R2) -/

/-- Every slot is among the slots. -/
@[simp] theorem mem_slots (i : Slot) : i ∈ slots := by unfold slots; exact List.mem_finRange i

/-- The slots are in priority order (R2). -/
theorem slots_sorted : slots.Pairwise (fun i j => i < j) := by unfold slots; exact List.pairwise_lt_finRange 512

/-! ### The pull in progress (R82) -/

/-- With no pull in progress there is no word to deliver. -/
theorem State.deliverWord_of_none {s : State} (h : s.port.delivering = []) : s.deliverWord = s := by
  simp [State.deliverWord, GradePort.advance, h]

/-- The words still to be delivered become fewer, and a pull in progress never touches the queue. -/
theorem GradePort.advance_bounds (p : GradePort) :
    p.advance.queue = p.queue ∧ p.advance.delivering.length ≤ p.delivering.length ∧
      p.advance.out ++ p.advance.delivering = p.out ++ p.delivering := by
  unfold GradePort.advance; split <;> simp_all

/-- A pull begins with at most three words still to come. -/
theorem GradePort.delivering_pull (p : GradePort) : p.pull.delivering.length ≤ 3 := by
  simp only [GradePort.pull, GradePort.oldestWords]
  split <;> simp [emptyIndication, GradeRecord.words]

/-! ### The outcome of a MATCH (R34) -/

/-- What it is for a slot to match in the FRAME context (R29). -/
theorem Cell.fits_iff (p : Profile) (k : Key) (c : Cell) :
    c.fits p k = true ↔ ∃ e x, c.entry = some e ∧ e.body = .illuminant .live x ∧ p.admits k e.key = true := by
  simp only [Cell.fits, Cell.live]
  cases c.entry with
  | none => simp
  | some e =>
    cases hb : e.body with
    | anchor a => simp [hb]
    | illuminant st x => cases st <;> simp [hb]

/-- The slots a FRAME match counts are those that match. -/
theorem State.mem_frameMatches (s : State) (k : Key) (i : Slot) :
    i ∈ s.frameMatches k ↔ (s.cell i).fits s.frameProfile k = true := by
  simp [State.frameMatches]

/-- A FRAME match counts every slot once. -/
theorem State.nodup_frameMatches (s : State) (k : Key) : (s.frameMatches k).Nodup :=
  (slots_sorted.imp fun h => ne_of_lt h).filter _

/-- The result of a FRAME match is its mode's. -/
@[simp] theorem State.frameMatch_result (s : State) (k : Key) (mode : MatchMode) (winner : Option Slot) :
    (s.frameMatch k mode winner).result = s.frameResult k mode winner := rfl

/-- The count of a FRAME match is over all matching LIVE entries, whatever the mode. -/
@[simp] theorem State.frameMatch_count (s : State) (k : Key) (mode : MatchMode) (winner : Option Slot) :
    (s.frameMatch k mode winner).count = s.frameCount k := rfl

/-- Multiple is yes from a count of 2 on. -/
@[simp] theorem State.frameMatch_multiple (s : State) (k : Key) (mode : MatchMode) (winner : Option Slot) :
    (s.frameMatch k mode winner).multiple = decide (2 ≤ s.frameCount k) := rfl

/-! ### The arbiter (R44) -/

/-- A granted operation of SERVICE was waiting. -/
theorem State.service_of_grant {s : State} {op : ServiceOp} (h : s.serviceGrant = some op) :
    s.arbiter.service = some op := by
  unfold State.serviceGrant at h; split at h <;> simp_all

/-- A granted operation of FRAME was waiting. -/
theorem State.frame_of_grant {s : State} {op : FrameOp} (h : s.frameGrant = some op) : s.arbiter.frame = some op := by
  unfold State.frameGrant at h; split at h <;> simp_all

/-- A granted operation of DERIVE was waiting. -/
theorem State.derive_of_grant {s : State} {op : DeriveOp} (h : s.deriveGrant = some op) :
    s.arbiter.derive = some op := by
  unfold State.deriveGrant at h; split at h <;> simp_all

/-- A granted operation of AGING was waiting. -/
theorem State.aging_of_grant {s : State} {b : Block} (h : s.agingGrant = some b) : s.arbiter.aging = some b := by
  unfold State.agingGrant at h; split at h <;> simp_all

/-- The requester granted next has an operation waiting (R44). -/
theorem Arbiter.waiting_of_next {a : Arbiter} {r : Requester} (h : a.next = some r) : a.waiting r = true := by
  unfold Arbiter.next at h; exact List.find?_some h

/-- While some operation waits, one is granted (R44). -/
theorem Arbiter.next_isSome {a : Arbiter} {r : Requester} (h : a.waiting r = true) : a.next.isSome = true := by
  unfold Arbiter.next
  rw [List.find?_isSome]
  refine ⟨r, ?_, h⟩
  cases a.rotation <;> cases r <;> simp [Requester.circle]

/-- A lone requester is granted wherever the position stands (R44). -/
theorem Arbiter.next_of_alone {a : Arbiter} {r : Requester} (h : a.waiting r = true)
    (alone : ∀ q, a.waiting q = true → q = r) : a.next = some r := by
  obtain ⟨q, hq⟩ := Option.isSome_iff_exists.mp (Arbiter.next_isSome h)
  rw [hq, alone q (Arbiter.waiting_of_next hq)]

/-! ### The free ends (R22) -/

/-- Next free is EMPTY. -/
theorem State.isEmpty_nextFree {s : State} {i : Slot} (h : s.nextFree = some i) : (s.cell i).isEmpty = true := by
  unfold State.nextFree at h
  exact List.find?_some (p := fun i => (s.cell i).isEmpty) h

/-- Last free is EMPTY. -/
theorem State.isEmpty_lastFree {s : State} {i : Slot} (h : s.lastFree = some i) : (s.cell i).isEmpty = true := by
  unfold State.lastFree at h
  exact List.find?_some (p := fun i => (s.cell i).isEmpty) h

/-- An EMPTY slot holds no entry. -/
theorem Cell.isEmpty_iff (c : Cell) : c.isEmpty = true ↔ c.entry = none := by
  simp [Cell.isEmpty]

end Sys2Proof.Machine
end

