-- ==== Sys2Proof/Laws/Due.lean ====
section
/-!
SUPPORT. The events that come about at once (log entry 3): what they can change, and that where nothing is due they
change nothing. Beside them the periods of the link and the single-slot operations.
-/
namespace Sys2Proof.Machine

/-! ### Nothing due -/

/-- The four parts of a settled state. -/
theorem State.settled_iff (s : State) :
    s.settled = true ↔
      s.channelDue = false ∧ s.frameDue = false ∧ s.blendDue = false ∧ s.aging.sweepDue = false := by
  simp [State.settled, and_assoc]

/-- No SET CHANNEL is performed unless one is due. -/
theorem State.performChannel_of_not_due {s : State} (h : s.channelDue = false) : s.performChannel = s := by
  unfold State.performChannel
  unfold State.channelDue at h
  split <;> simp_all

/-- A SET CHANNEL that was due has been performed. -/
theorem State.channelDue_performChannel (s : State) : s.performChannel.channelDue = false := by
  unfold State.performChannel
  split
  · rename_i c f h
    split
    · rename_i h'
      simp [State.channelDue, h, h']
    · simp [State.writeChannel, State.done, State.reply, State.channelDue, State.setLink]
  · rename_i h
    unfold State.channelDue
    split
    · rename_i h'
      exact absurd h' (h _ _)
    · rfl

/-- No frame starts unless one is due. -/
theorem State.startFrame_of_not_due {s : State} (h : s.frameDue = false) : s.startFrame = s := by
  unfold State.startFrame
  unfold State.frameDue at h
  split <;> simp_all

/-- No sweep starts unless one is due. -/
theorem State.startSweep_of_not_due {s : State} (h : s.aging.sweepDue = false) : s.startSweep = s := by
  simp [State.startSweep, h]

/-- The blends that wait fill the places that are free, oldest first; the others go on waiting. -/
theorem fillBlender_eq (running waiting : List Blend) :
    fillBlender running waiting =
      (running ++ waiting.take (4 - running.length), waiting.drop (4 - running.length)) := by
  induction waiting generalizing running with
  | nil => simp [fillBlender]
  | cons b l ih =>
    by_cases h : running.length < 4
    · obtain ⟨m, hm⟩ : ∃ m, 4 - running.length = m + 1 := ⟨3 - running.length, by omega⟩
      have hm' : 4 - (running.length + 1) = m := by omega
      simp [fillBlender, Config.blendPlaces, h, ih, hm, hm']
    · have hm : 4 - running.length = 0 := by omega
      simp [fillBlender, Config.blendPlaces, h, hm]

/-- A blender with no room, or with nothing waiting, is as it was. -/
theorem fillBlender_of_not_due {running waiting : List Blend} (h : waiting = [] ∨ 4 ≤ running.length) :
    fillBlender running waiting = (running, waiting) := by
  rw [fillBlender_eq]
  rcases h with rfl | h
  · simp
  · simp [show 4 - running.length = 0 by omega]

/-- A blend that waits starts where the blender has room. -/
theorem DerivationUnit.startBlend_of_room {d : DerivationUnit} {b : Blend} {l : List Blend}
    (hw : d.waitingBlends = b :: l) (h : d.blends.length < 4) :
    d.startBlend = { d with blends := d.blends ++ [b], waitingBlends := l } := by
  unfold DerivationUnit.startBlend
  rw [hw]
  exact if_pos h

/-- No blend starts in a blender with no room, or with nothing waiting. -/
theorem DerivationUnit.startBlend_of_not_due {d : DerivationUnit} (h : d.waitingBlends = [] ∨ 4 ≤ d.blends.length) :
    d.startBlend = d := by
  unfold DerivationUnit.startBlend
  split
  · rfl
  · rename_i hw
    rcases h with h | h
    · simp [hw] at h
    · exact if_neg (Nat.not_lt.mpr h)

/-- What it means that no blend is due. -/
theorem State.blendDue_eq_false {s : State} :
    s.blendDue = false ↔ s.derive.waitingBlends = [] ∨ 4 ≤ s.derive.blends.length := by
  cases h : s.derive.waitingBlends <;> simp [State.blendDue, h]

/-- No blend starts unless one is due. -/
theorem State.startBlends_of_not_due {s : State} (h : s.blendDue = false) : s.startBlends = s := by
  unfold State.startBlends
  rw [fillBlender_of_not_due (State.blendDue_eq_false.mp h)]
  rfl

/-- Where nothing is due, nothing comes about by itself. -/
theorem State.catchUp_of_settled {s : State} (h : s.settled = true) : s.catchUp = s := by
  obtain ⟨h1, h2, h3, h4⟩ := (State.settled_iff s).mp h
  unfold State.catchUp
  rw [State.performChannel_of_not_due h1, State.startFrame_of_not_due h2, State.startBlends_of_not_due h3,
    State.startSweep_of_not_due h4]

/-! ### What a listening state is -/

/-- The parts of a listening state. -/
theorem State.listens_iff (s : State) :
    s.listens = true ↔ s.settled = true ∧ s.lines.ready = true ∧ s.link.state = .idle := by
  simp [State.listens, and_assoc]

/-- The parts of a state that takes reading words. -/
theorem State.reads_iff (s : State) : s.reads = true ↔ s.settled = true ∧ s.lines.ready = true := by
  simp [State.reads]

/-- The part at a message that it takes: its period has shifted out the status byte IDLE and the filler, and what is listed
for the message after it stands first (R168). -/
def State.taking (s : State) : State :=
  { s with link := { s.link with out := s.messageOut }, trailing := s.trailing.tail }

/-- A listening state takes a message. -/
theorem State.takeMessage_of_listens {s : State} (h : s.listens = true) (f : State → State) :
    s.catchUp.takeMessage f = f s.taking := by
  obtain ⟨h1, h2, h3⟩ := (State.listens_iff s).mp h
  rw [State.catchUp_of_settled h1]
  simp only [State.takeMessage, State.openMessage, h2, h3, if_true]
  rfl

/-- A period begun before the part is ready is ignored, whatever the host clocks and whenever it ends (R176). -/
theorem State.hostPeriod_of_not_ready {s : State} (h : s.lines.ready = false) (bytes : List Byte) :
    s.hostPeriod bytes = .selectAborted := by
  simp [State.hostPeriod, h]

/-- A listening part reads a period as the status byte IDLE has it (R165). -/
theorem State.hostPeriod_of_listens {s : State} (h : s.listens = true) (bytes : List Byte) :
    s.hostPeriod bytes = selectPeriod .idle 0 bytes := by
  obtain ⟨h1, h2, h3⟩ := (State.listens_iff s).mp h
  simp [State.hostPeriod, State.catchUp_of_settled h1, h2, h3, LinkState.status, LinkState.replyLength]

/-- A ready state with nothing due takes a reading word. -/
theorem State.takeWord_of_reads {s : State} (h : s.reads = true) (f : State → State) :
    s.catchUp.takeWord f = f s := by
  obtain ⟨h1, h2⟩ := (State.reads_iff s).mp h
  rw [State.catchUp_of_settled h1]
  simp [State.takeWord, h2]

/-- A request answered at once, in the words of the statements. -/
theorem State.reply_taking (s : State) (r : Reply) : s.taking.reply r = s.answers r := rfl

/-- A request submitted, in the words of the statements. -/
theorem State.submitService_taking (s : State) (op : ServiceOp) : s.taking.submitService op = s.submits op := rfl

/-! ### Single-slot operations (R151) -/

/-- A single-slot operation that finds no free end (R152). -/
theorem State.atSlot_noFree {s : State} {t : Target} (h : t.slot s = none) (act : State → Slot → State × Reply) :
    s.grantService.atSlot t act = s.completes t (.refused .noFree) := by
  have h' : t.slot s.grantService = none := h
  unfold State.atSlot
  rw [h']
  cases hc : t.viaCursor <;> simp [State.moveCursor, State.completes, State.reply, State.setLink, State.grantService, hc]

/-- A single-slot operation at its slot: its own work, then the cursor's move and the reply (R153). -/
theorem State.atSlot_slot {s : State} {t : Target} {i : Slot} (h : t.slot s = some i)
    (act : State → Slot → State × Reply) :
    s.grantService.atSlot t act =
      ((act s.grantService i).1.moveCursor t.viaCursor).reply (act s.grantService i).2 := by
  have h' : t.slot s.grantService = some i := h
  unfold State.atSlot
  rw [h']

end Sys2Proof.Machine
end

