-- ==== Sys2Proof/Laws/Layouts.lean ====
section
/-!
SUPPORT. The parts of a request message decode to what they encode, whatever bytes follow (R177).
-/
namespace Sys2Proof

/-- A number below the limit reads back from its bytes: no part of it reaches the limit. -/
theorem parseBelow_numberBytes {n limit : Nat} (h : numberOk n = true) (hl : n < limit) (more : List Byte) :
    parseBelow limit (numberBytes n ++ more) = .got n more := by
  have h : n ≤ 2097151 := of_decide_eq_true h
  unfold numberBytes
  split
  · have e : (BitVec.ofNat 8 n).toNat = n := by simp; omega
    have m : n % 128 = n := by omega
    have l0 : ¬limit ≤ n := by omega
    have l1 : n < 128 := by assumption
    simp only [List.cons_append, List.nil_append, parseBelow, parseGroups, e, m, Nat.zero_add, Nat.one_mul, l0, l1,
      if_true, if_false]
  · split
    · have e1 : (BitVec.ofNat 8 (128 + n % 128)).toNat = 128 + n % 128 := by simp; omega
      have e2 : (BitVec.ofNat 8 (n / 128)).toNat = n / 128 := by simp; omega
      have m1 : (128 + n % 128) % 128 = n % 128 := by omega
      have m2 : n / 128 % 128 = n / 128 := by omega
      have l0 : ¬limit ≤ n % 128 := by omega
      have l1 : ¬128 + n % 128 < 128 := by omega
      have v : n % 128 + 128 * (n / 128) = n := by omega
      have l2 : ¬limit ≤ n := by omega
      have l3 : n / 128 < 128 := by omega
      simp only [List.cons_append, List.nil_append, parseBelow, parseGroups, e1, e2, m1, m2, Nat.zero_add, Nat.one_mul,
        Nat.mul_one, l0, l1, l2, l3, v, if_true, if_false, reduceCtorEq, OfNat.ofNat_ne_zero]
    · have e1 : (BitVec.ofNat 8 (128 + n % 128)).toNat = 128 + n % 128 := by simp; omega
      have e2 : (BitVec.ofNat 8 (128 + n / 128 % 128)).toNat = 128 + n / 128 % 128 := by simp; omega
      have e3 : (BitVec.ofNat 8 (n / 16384)).toNat = n / 16384 := by simp; omega
      have m1 : (128 + n % 128) % 128 = n % 128 := by omega
      have m2 : (128 + n / 128 % 128) % 128 = n / 128 % 128 := by omega
      have m3 : n / 16384 % 128 = n / 16384 := by omega
      have l0 : ¬limit ≤ n % 128 := by omega
      have l1 : ¬128 + n % 128 < 128 := by omega
      have l2 : ¬limit ≤ n % 128 + 128 * (n / 128 % 128) := by omega
      have l3 : ¬128 + n / 128 % 128 < 128 := by omega
      have v : n % 128 + 128 * (n / 128 % 128) + 128 * 128 * (n / 16384) = n := by omega
      have l4 : ¬limit ≤ n := by omega
      have l5 : n / 16384 < 128 := by omega
      simp only [List.cons_append, List.nil_append, parseBelow, parseGroups, e1, e2, e3, m1, m2, m3, Nat.zero_add,
        Nat.one_mul, Nat.mul_one, l0, l1, l2, l3, l4, l5, v, if_true, if_false, reduceCtorEq,
        OfNat.ofNat_ne_zero]

/-- A number in range reads back from its bytes. -/
theorem parseNumber_numberBytes {n : Nat} (h : numberOk n = true) (more : List Byte) :
    parseNumber (numberBytes n ++ more) = .got n more :=
  parseBelow_numberBytes h (Nat.lt_succ_of_le (of_decide_eq_true h)) more

/-- A signed value and its code stand for each other. -/
theorem signedOf_signedCode (v : Int) : signedOf (signedCode v) = v := by
  unfold signedCode signedOf
  split <;> split <;> omega

/-- A signed number in range reads back from its bytes. -/
theorem parseSigned_signedBytes {v : Int} (h : signedOk v = true) (more : List Byte) :
    parseSigned (signedBytes v ++ more) = .got v more := by
  unfold parseSigned signedBytes
  rw [parseNumber_numberBytes h]
  simp [Parsed.map, Parsed.andThen, signedOf_signedCode]

/-- The kind of a designator reads back from its byte. -/
theorem parseKind_numberBytes {n : Nat} (h : n < 6) (more : List Byte) :
    parseBelow 6 (numberBytes n ++ more) = .got n more :=
  parseBelow_numberBytes (decide_eq_true (by simp only [Config.maxNumber]; omega)) h more

/-- A designator reads back from its bytes. -/
theorem parseDesignator_bytes {d : Designator} (h : d.wf = true) (more : List Byte) :
    parseDesignator (d.bytes ++ more) = .got d more := by
  cases d with
  | absolute n =>
    simp [Designator.bytes, parseDesignator, Parsed.andThen, Parsed.map, parseKind_numberBytes,
      parseNumber_numberBytes (show numberOk n = true from h)]
  | cursorOffset o =>
    simp [Designator.bytes, parseDesignator, Parsed.andThen, Parsed.map, parseKind_numberBytes,
      parseSigned_signedBytes (show signedOk o = true from h)]
  | cursor => simp [Designator.bytes, parseDesignator, Parsed.andThen, parseKind_numberBytes]
  | lastMatch => simp [Designator.bytes, parseDesignator, Parsed.andThen, parseKind_numberBytes]
  | nextFree => simp [Designator.bytes, parseDesignator, Parsed.andThen, parseKind_numberBytes]
  | lastFree => simp [Designator.bytes, parseDesignator, Parsed.andThen, parseKind_numberBytes]

/-- A key reads back from its bytes. -/
theorem parseKey_bytes {k : Key} (h : k.wf = true) (more : List Byte) : parseKey (k.bytes ++ more) = .got k more := by
  simp only [Key.wf, Bool.and_eq_true] at h
  simp [parseKey, Key.bytes, Parsed.andThen, Parsed.map, parseNumber_numberBytes, h]

/-- Gains read back from their bytes. -/
theorem parseGains_bytes {g : Gains} (h : g.wf = true) (more : List Byte) :
    parseGains (g.bytes ++ more) = .got g more := by
  simp only [Gains.wf, Bool.and_eq_true] at h
  simp [parseGains, Gains.bytes, Parsed.andThen, Parsed.map, parseNumber_numberBytes, h]

/-- A matrix reads back from its bytes. -/
theorem parseMatrix_bytes {m : Matrix} (h : m.wf = true) (more : List Byte) :
    parseMatrix (m.bytes ++ more) = .got m more := by
  simp only [Matrix.wf, Bool.and_eq_true] at h
  simp [parseMatrix, Matrix.bytes, Parsed.andThen, Parsed.map, parseSigned_signedBytes, h]

/-- A reference reads back from its bytes. -/
theorem parseReference_bytes {r : Reference} (h : r.wf = true) (more : List Byte) :
    parseReference (r.bytes ++ more) = .got r more := by
  simp only [Reference.wf, Bool.and_eq_true] at h
  simp [parseReference, Reference.bytes, Parsed.andThen, Parsed.map, parseNumber_numberBytes, h]

/-- Limits read back from their bytes. -/
theorem parseLimits_bytes {l : Limits} (h : l.wf = true) (more : List Byte) :
    parseLimits (l.bytes ++ more) = .got l more := by
  simp only [Limits.wf, Bool.and_eq_true] at h
  simp [parseLimits, Limits.bytes, Parsed.andThen, Parsed.map, parseNumber_numberBytes, h]

/-- A selector is below the first power of two beyond its bits. -/
theorem selectorOf_lt (l : List Bool) : selectorOf l < 2 ^ l.length := by
  induction l with
  | nil => simp [selectorOf]
  | cons b l ih =>
    simp only [selectorOf, List.length_cons, Nat.pow_succ]
    cases b <;> simp only [Bool.toNat_true, Bool.toNat_false] <;> omega

/-- The first bit of a selector. -/
theorem selectorOf_testBit_zero (b : Bool) (l : List Bool) : (selectorOf (b :: l)).testBit 0 = b := by
  cases b <;> simp [selectorOf, Nat.testBit_zero]

/-- The later bits of a selector. -/
theorem selectorOf_testBit_succ (b : Bool) (l : List Bool) (i : Nat) :
    (selectorOf (b :: l)).testBit (i + 1) = (selectorOf l).testBit i := by
  have e : (b.toNat + 2 * selectorOf l) / 2 = selectorOf l := by
    cases b <;> simp only [Bool.toNat_true, Bool.toNat_false] <;> omega
  rw [Nat.testBit_succ, selectorOf, e]

/-- A part reads back from its bytes, when its selector bit says whether it is carried. -/
theorem parsePart_bytes {α : Type} {p : List Byte → Parsed α} {f : α → List Byte} {selector bit : Nat} {x : Option α}
    (hb : selector.testBit bit = x.isSome) (hp : ∀ a, x = some a → ∀ more, p (f a ++ more) = .got a more)
    (more : List Byte) : parsePart selector bit p (partBytes f x ++ more) = .got x more := by
  cases x with
  | none => simp [parsePart, partBytes, hb]
  | some a => simp [parsePart, partBytes, hb, hp a rfl more, Parsed.map, Parsed.andThen]

/-- A selector over `k` parts reads back from its bytes. -/
theorem parseSelector_bytes {k : Nat} {l : List Bool} (hk : l.length = k) (hs : k ≤ 20) (more : List Byte) :
    parseSelector k (numberBytes (selectorOf l) ++ more) = .got (selectorOf l) more := by
  have h := selectorOf_lt l
  rw [hk] at h
  have hp : 2 ^ k ≤ 2 ^ 20 := Nat.pow_le_pow_right (by decide) hs
  have hn : numberOk (selectorOf l) = true := by
    unfold numberOk Config.maxNumber
    exact decide_eq_true (by omega)
  exact parseBelow_numberBytes hn h more

end Sys2Proof
end

