-- ==== Sys2Proof/Laws/Learning.lean ====
section
/-!
SUPPORT. Which number a new request takes (R90), and what a SEARCH's order of candidates is (R96): a permutation of the
candidates, nearest first, ties by lower slot, of which at most three are taken.
-/
namespace Sys2Proof.Machine

/-- A new request's number (R90): so many numbers on from the next number, each of those before it held by a queued
request, and free itself unless every try was held. -/
theorem pickNumber_spec (held : List Nat) (tries n : Nat) (hn : n ≤ 255) :
    ∃ k ≤ tries,
      pickNumber held tries n = (n + k) % 256 ∧ (k < tries → pickNumber held tries n ∉ held) ∧
        ∀ j < k, (n + j) % 256 ∈ held := by
  induction tries generalizing n with
  | zero => exact ⟨0, by omega, by simp only [pickNumber]; omega, by omega, by omega⟩
  | succ tries ih =>
    by_cases h : n ∈ held
    · obtain ⟨k, h1, h2, h3, h4⟩ := ih (numberAfter n) (by simp only [numberAfter]; omega)
      have e : pickNumber held (tries + 1) n = pickNumber held tries (numberAfter n) := by simp [pickNumber, h]
      refine ⟨k + 1, by omega, ?_, fun hk => e ▸ h3 (by omega), fun j hj => ?_⟩
      · rw [e, h2]; simp only [numberAfter]; omega
      · cases j with
        | zero => rwa [show (n + 0) % 256 = n by omega]
        | succ j =>
          have hj := h4 j (by omega)
          rwa [show (numberAfter n + j) % 256 = (n + (j + 1)) % 256 by simp only [numberAfter]; omega] at hj
    · exact ⟨0, by omega, by simp [pickNumber, h]; omega, fun _ => by simp [pickNumber, h], by omega⟩

/-- Putting a slot in its place adds it and nothing else. -/
theorem insertNear_perm (d : Slot → Nat) (i : Slot) (l : List Slot) : (insertNear d i l).Perm (i :: l) := by
  induction l with
  | nil => exact List.Perm.refl _
  | cons j l ih =>
    unfold insertNear
    split
    · exact List.Perm.refl _
    · exact (ih.cons j).trans (List.Perm.swap i j l)

/-- Ordering by distance keeps the slots. -/
theorem byDistance_perm (d : Slot → Nat) (l : List Slot) : (byDistance d l).Perm l := by
  induction l with
  | nil => exact List.Perm.refl _
  | cons i l ih => exact (insertNear_perm d i _).trans (ih.cons i)

/-- The order of a SEARCH's candidates (R96): nearer before farther, and the lower slot before the higher. -/
def nearer (d : Slot → Nat) (i j : Slot) : Prop := d i < d j ∨ (d i = d j ∧ i < j)

/-- Putting a slot that is lower than every other in its place keeps the order. -/
theorem insertNear_pairwise {d : Slot → Nat} {i : Slot} {l : List Slot} (hl : l.Pairwise (nearer d))
    (hi : ∀ j ∈ l, i < j) : (insertNear d i l).Pairwise (nearer d) := by
  induction l with
  | nil => exact List.pairwise_singleton _ _
  | cons j l ih =>
    rw [List.pairwise_cons] at hl
    have hj : i < j := hi j List.mem_cons_self
    unfold insertNear
    split
    · next h =>
      refine List.pairwise_cons.mpr ⟨fun k hk => ?_, List.pairwise_cons.mpr hl⟩
      rcases List.mem_cons.mp hk with rfl | hk
      · exact (Nat.lt_or_eq_of_le h).imp id fun e => ⟨e, hj⟩
      · rcases hl.1 k hk with hk' | hk'
        · exact .inl (Nat.lt_of_le_of_lt h hk')
        · refine (Nat.lt_or_eq_of_le h).imp (fun e => hk'.1 ▸ e) fun e => ⟨e.trans hk'.1, ?_⟩
          exact hi k (List.mem_cons_of_mem _ hk)
    · next h =>
      refine List.pairwise_cons.mpr ⟨fun k hk => ?_, ih hl.2 fun k hk => hi k (List.mem_cons_of_mem _ hk)⟩
      rcases List.mem_cons.mp ((insertNear_perm d i l).subset hk) with rfl | hk
      · exact .inl (Nat.lt_of_not_le h)
      · exact hl.1 k hk

/-- Slots given lowest first come out nearest first, ties by lower slot (R96). -/
theorem byDistance_pairwise (d : Slot → Nat) {l : List Slot} (hl : l.Pairwise (fun i j => i < j)) :
    (byDistance d l).Pairwise (nearer d) := by
  induction l with
  | nil => exact List.Pairwise.nil
  | cons i l ih =>
    rw [List.pairwise_cons] at hl
    exact insertNear_pairwise (ih hl.2) fun j hj => hl.1 j ((byDistance_perm d l).subset hj)

/-- At most three slots are taken (R96). -/
theorem State.nearest_length (s : State) (k : Key) : (s.nearest k).length ≤ 3 := List.length_take_le 3 _

/-- A candidate makes the list of parents non-empty (R96). -/
theorem State.nearest_ne_nil {s : State} {k : Key} {i : Slot} (h : (s.cell i).isCandidate s.frameProfile k = true) :
    s.nearest k ≠ [] := by
  intro hn
  have hm : i ∈ byDistance (fun i => (s.cell i).distanceFrom k)
      (slots.filter fun i => (s.cell i).isCandidate s.frameProfile k) :=
    (byDistance_perm _ _).symm.subset (List.mem_filter.mpr ⟨mem_slots i, h⟩)
  unfold State.nearest Config.maxParents at hn
  rw [List.take_eq_nil_iff] at hn
  rcases hn with hn | hn
  · omega
  · rw [hn] at hm; cases hm

end Sys2Proof.Machine
end

