-- ==== Sys2Proof/Laws/Requests.lean ====
section
/-!
SUPPORT. The checks of the carried values against the ranges of the statements, and the shared operations of the host's
single-slot requests.
-/
namespace Sys2Proof.Machine

/-! ### Ranges -/

/-- The key check is the key's ranges. -/
theorem keyOk_iff (k : Key) : keyOk k = true ↔ k.inRange := by simp [keyOk, Key.inRange, and_assoc]

/-- A carried value's check. -/
theorem carriedOk_iff {α : Type} (ok : α → Bool) (o : Option α) :
    carriedOk ok o = true ↔ ∀ x, o = some x → ok x = true := by
  cases o <;> simp [carriedOk]

/-- A carried number's range check. -/
theorem carriedOk_within_iff (lo hi : Nat) (o : Option Nat) :
    carriedOk (within lo hi) o = true ↔ carriedWithin lo hi o := by
  simp [carriedOk_iff, carriedWithin, within]

/-- The check of the parts of a body is their ranges. -/
theorem bodyOk_iff (b : BodyParts) : bodyOk b = true ↔ b.inRange := by
  simp [bodyOk, carriedOk_iff, BodyParts.inRange, gainsOk, matrixOk, coefficientOk, referenceOk, limitsOk, and_assoc]

/-- The check of the profile fields is their ranges (R27). -/
theorem profileFieldsOk_iff (f : ProfileFields) : profileFieldsOk f = true ↔ f.inRange := by
  simp [profileFieldsOk, carriedOk_within_iff, ProfileFields.inRange, and_assoc]

/-- The check of the channel fields is their ranges (R66). -/
theorem channelFieldsOk_iff (f : ChannelFields) : channelFieldsOk f = true ↔ f.inRange := by
  simp [channelFieldsOk, carriedOk_within_iff, ChannelFields.inRange, and_assoc]

/-- The check of the class fields is their ranges (R113). -/
theorem classFieldsOk_iff (f : ClassFields) : classFieldsOk f = true ↔ f.inRange := by
  simp [classFieldsOk, carriedOk_within_iff, ClassFields.inRange, and_assoc]

/-- The values of a PLACE within their ranges (R154). -/
theorem placeValuesOk_iff (q : PlaceRequest) :
    placeValuesOk q = true ↔
      q.flags ≤ 7 ∧ 1 ≤ q.state ∧ q.state ≤ 3 ∧ q.key.inRange ∧ (∀ c, q.cls = some c → c ≤ 3) ∧ q.body.inRange := by
  simp [placeValuesOk, keyOk_iff, bodyOk_iff, within, carriedOk_iff, classOk, and_assoc]

/-- A profile number in range names its profile. -/
@[simp] theorem profileOf_val (p : Fin 2) : profileOf p.val = some p := by simp [profileOf, p.isLt]

/-- A channel number in range names its channel. -/
@[simp] theorem channelOf_val (c : Chan) : channelOf c.val = some c := by simp [channelOf, c.isLt]

/-- A class number in range names its class. -/
@[simp] theorem classNumberOf_val (k : ClassNo) : classNumberOf k.val = some k := by simp [classNumberOf, k.isLt]

/-! ### What a designator and its request share (R152) -/

/-- A designator names the same slot whatever the link has shifted out. -/
theorem resolveDesignator_taking (s : State) (d : Designator) :
    resolveDesignator s.taking d = resolveDesignator s d := by
  cases d <;> rfl

/-- The end of a single-slot operation that changed nothing itself, in the words of the statements. -/
theorem State.completes_eq (s : State) (t : Target) (r : Reply) :
    (s.grantService.moveCursor t.viaCursor).reply r = s.completes t r := by
  cases h : t.viaCursor <;>
    simp [State.moveCursor, State.completes, State.reply, State.setLink, State.grantService, h]

/-! ### The owned-depth test (R142, R143) -/

/-- An amending request that is refused with NESTED. -/
theorem Entry.amended_of_nests {d : Nat} {e : Entry} (h : e.nests d) (f : Entry → Entry) : e.amended d f = none := by
  obtain ⟨sh, hs, h1⟩ := h
  simp only [Entry.amended, Entry.ownedDepth, hs]
  rw [if_neg (by omega)]

/-- An amending request that is not refused changes the entry, with its shadow where one is taken. -/
theorem Entry.amended_of_not_nests {d : Nat} {e : Entry} (h : ¬e.nests d) (f : Entry → Entry) :
    e.amended d f = some (f (e.forChange d)) := by
  cases hs : e.shadow with
  | some sh =>
    have hd : d ≤ max e.stamp sh.depth := by
      by_contra hd
      exact h ⟨sh, hs, by omega⟩
    rw [Entry.forChange, if_neg (by simp [hs])]
    simp only [Entry.amended, Entry.ownedDepth, hs, if_pos hd]
  | none =>
    by_cases hd : d ≤ e.stamp
    · rw [Entry.forChange, if_neg (by simp [hd])]
      simp only [Entry.amended, Entry.ownedDepth, hs, if_pos hd]
    · rw [Entry.forChange, if_pos ⟨hs, by omega⟩]
      simp only [Entry.amended, Entry.ownedDepth, hs, if_neg hd, Entry.shadowAt]
      cases hb : e.body <;> rfl

/-- A channel loses the winner that has gone, and only it (R79). -/
theorem Channel.loseWinner_eq_without (i : Slot) (ch : Channel) :
    Channel.loseWinner (fun j => j == i) ch = ch.without i := by
  unfold Channel.loseWinner Channel.without
  cases h : ch.winner with
  | none => simp
  | some j => by_cases hj : j = i <;> simp [hj]

/-- A key is taken when some entry holds it (R3). -/
theorem State.keyTaken_iff (s : State) (k : Key) :
    s.keyTaken k = true ↔ ∃ j e, (s.cell j).entry = some e ∧ e.key = k := by
  unfold State.keyTaken
  rw [List.any_eq_true]
  constructor
  · rintro ⟨c, hc, h⟩
    rw [Vector.mem_toList_iff, Vector.mem_iff_getElem] at hc
    obtain ⟨n, hn, rfl⟩ := hc
    refine ⟨⟨n, hn⟩, ?_⟩
    unfold State.cell
    split at h
    · rename_i e he
      exact ⟨e, he, by simpa using h⟩
    · simp at h
  · rintro ⟨j, e, he, hk⟩
    refine ⟨s.cell j, ?_, ?_⟩
    · rw [Vector.mem_toList_iff]; unfold State.cell; exact Vector.getElem_mem j.isLt
    · rw [he]; simpa using hk

end Sys2Proof.Machine
end

