-- ==== Sys2Proof/Laws/Steps.lean ====
section
/-!
SUPPORT. What the shared steps of the part can do, each said once: the unit's choice, a miss considered, a record
delivered, requests leaving the queue, the parts of a frame, the events that come about at once, and a step of the part.
A property kept by the pieces is kept by the whole.
-/
namespace Sys2Proof.Machine

/-! ### The Derivation Unit (R92 to R95, R106) -/

/-- The unit's choice (R95): nothing, an INSTALL for the oldest request, or a SEARCH for the oldest WAITING one. -/
theorem State.chooseDerive_cases (s : State) :
    s.chooseDerive = s ∨
      s.arbiter.derive = none ∧
        ((∃ q l, s.derive.queue = q :: l ∧ q.stage = .ready ∧ s.chooseDerive = s.submitDerive (.install q.number)) ∨
          ∃ w ∈ s.derive.queue, w.stage = .waiting ∧
            s.chooseDerive =
              (s.updateRequest w.number fun r => { r with stage := .searching }).submitDerive (.search w.number)) := by
  unfold State.chooseDerive
  split
  · exact .inl rfl
  · next h =>
    split
    · exact .inl rfl
    · next q l hq =>
      split
      · next hr => exact .inr ⟨h, .inl ⟨q, l, hq, hr, rfl⟩⟩
      · split
        · next w hw =>
          exact .inr ⟨h, .inr ⟨w, List.mem_of_find?_eq_some hw, by simpa using List.find?_some hw, rfl⟩⟩
        · exact .inl rfl

/-- A property that no choice of the unit touches. -/
theorem State.chooseDerive_field {α : Type} (f : State → α) (s : State)
    (h : ∀ (t : State) (a : Arbiter) (d : DerivationUnit), f { t with arbiter := a, derive := d } = f t) :
    f s.chooseDerive = f s := by
  rcases s.chooseDerive_cases with e | ⟨-, ⟨q, l, -, -, e⟩ | ⟨w, -, -, e⟩⟩ <;> rw [e]
  · exact h s { s.arbiter with derive := some (.install q.number) } s.derive
  · exact h s { s.arbiter with derive := some (.search w.number) } _

/-- A miss considered (R92 to R94): nothing, a reference to a queued request, LEARN_DEFERRED, or a new request. -/
theorem State.considerMiss_cases (s : State) (c : Chan) (r : ChannelReading) (n : Nat) :
    s.considerMiss c r n = s ∨
      (∃ q ∈ s.derive.queue, s.considerMiss c r n = s.setPendingDerivation c q.number) ∨
      s.considerMiss c r n = s.raise .learnDeferred c.val ∨
      (∀ q ∈ s.derive.queue, q.channel ≠ c) ∧ s.considerMiss c r n = s.issue c r n := by
  unfold State.considerMiss
  split
  · split
    · next q hq => exact .inr (.inl ⟨q, List.mem_of_find?_eq_some hq, rfl⟩)
    · split
      · exact .inr (.inr (.inl rfl))
      · next h =>
        refine .inr (.inr (.inr ⟨fun q hq hc => h ?_, rfl⟩))
        exact List.any_eq_true.mpr ⟨q, hq, by simp [hc]⟩
  · exact .inl rfl

/-- Requests that leave the queue change the channels, the unit and DERIVE's waiting operation, and nothing else. -/
theorem State.leaveQueue_eq (s : State) (p : Derivation → Bool) :
    s.leaveQueue p =
      { s with
        channels := (s.leaveQueue p).channels
        derive := (s.leaveQueue p).derive
        arbiter := { s.arbiter with derive := (s.leaveQueue p).arbiter.derive } } := rfl

/-- A request that ends leaves the queue and becomes the last ending (R106, R107). -/
theorem State.endRequest_derive (s : State) (q : Derivation) (e : Ending) :
    (s.endRequest q e).derive =
      { (s.leaveQueue fun r => r.number == q.number).derive with
        lastEnding :=
          some { number := q.number, channel := q.channel, issueFrame := q.issueFrame, ending := e } } := rfl

/-! ### Records (R76, R81 to R83) -/

/-- A record handed over writes the Grade Port and, when the port is full, a cause. -/
theorem State.emit_eq (s : State) (r : GradeRecord) :
    s.emit r = { s with port := (s.emit r).port, notices := (s.emit r).notices } := by
  by_cases h : s.port.queue.length < Config.portDepth <;> simp [State.emit, h, State.raise]

/-- The end of a channel's work writes its record, the Grade Port and, when the port is full, a cause. -/
theorem State.deliver_eq (s : State) (n : Nat) (c : Chan) (outcome : ChannelOutcome) :
    s.deliver n c outcome =
      { s with
        channels := s.channels.set c ((s.channel c).advanceGlide n)
        port := (s.deliver n c outcome).port
        notices := (s.deliver n c outcome).notices } := by
  exact State.emit_eq _ _

/-- A glide whose owed steps are all due takes them all, and the deadline moves on by each (R76). -/
theorem glideSteps_lands (n pace : Nat) (target : Grade) (r deadline : Nat) (d : Grade)
    (h : deadline + pace * (r - 1) ≤ n) :
    (glideSteps n pace target r deadline d).1 = 0 ∧
      (glideSteps n pace target r deadline d).2.1 = deadline + pace * r := by
  induction r generalizing deadline d with
  | zero => simp [glideSteps]
  | succ r ih =>
    have hd : deadline ≤ n := by omega
    unfold glideSteps
    simp only [hd, if_true]
    cases r with
    | zero => simp [glideSteps]
    | succ r =>
      obtain ⟨h1, h2⟩ :=
        ih (deadline + pace) (Grade.glideStep (r + 2) d target) (by simp at h ⊢; nlinarith)
      exact ⟨h1, h2.trans (by ring)⟩

/-! ### Frames (R60, R61) -/

/-- A property kept by the parts of a frame is kept by their run. -/
theorem State.runParts_keeps {P : State → Prop} (w : FrameWork) (waiting : Option ClosedFrame)
    (complete : ∀ s, P s → P (s.completeFrame waiting))
    (begin : ∀ s c r, w.inputs[c] = .reading r → P s → P (s.beginMatch w waiting c r))
    (dark : ∀ s c, P s → P (s.workDark w c))
    (check : ∀ s c a rest, P s → P (s.beginCheck w waiting c a rest)) :
    ∀ (l : List Chan) (s : State), P s → P (s.runParts w waiting l) := by
  intro l
  induction l with
  | nil => exact fun s h => complete s h
  | cons c l ih =>
    intro s h
    unfold State.runParts
    split
    · next r hr => exact begin s c r hr h
    · split
      · exact check _ _ _ _ (dark _ _ h)
      · exact ih _ (dark _ _ h)
    · split
      · exact check _ _ _ _ h
      · exact ih _ h

/-- A property kept by the parts of a frame is kept by what follows in a part. -/
theorem State.continuePart_keeps {P : State → Prop} (w : FrameWork) (waiting : Option ClosedFrame)
    (complete : ∀ s, P s → P (s.completeFrame waiting))
    (begin : ∀ s c r, w.inputs[c] = .reading r → P s → P (s.beginMatch w waiting c r))
    (dark : ∀ s c, P s → P (s.workDark w c))
    (check : ∀ s c a rest, P s → P (s.beginCheck w waiting c a rest)) (c : Chan) (l : List AnchorReading) (s : State)
    (h : P s) : P (s.continuePart w waiting c l) := by
  unfold State.continuePart
  split
  · exact check _ _ _ _ h
  · exact State.runParts_keeps w waiting complete begin dark check _ _ h

/-! ### Events that come about at once, and steps -/

/-- A property kept by the four events that come about at once is kept by all of them. -/
theorem State.catchUp_keeps {P : State → Prop} (channel : ∀ s, P s → P s.performChannel)
    (frame : ∀ s, P s → P s.startFrame) (blends : ∀ s, P s → P s.startBlends) (sweep : ∀ s, P s → P s.startSweep)
    (s : State) (h : P s) : P s.catchUp := sweep _ (blends _ (frame _ (channel _ h)))

/-- A property that does not speak of the queue of commands and that every command and every word of a pull keep is kept
by every step. -/
theorem step_keeps {P : State → Prop} (queue : ∀ (s : State) (l : List Instr), P s → P { s with pending := l })
    (word : ∀ s, P s → P s.deliverWord)
    (command : ∀ (c : Instr) (s t : State), P s → exec c s = .next t → P t) (s t : State) (h : P s)
    (e : step s = .next t) : P t := by
  unfold step at e
  split at e
  · cases e; exact word s h
  · exact command _ _ _ (queue s _ h) e

end Sys2Proof.Machine
end

