-- ==== Sys2Proof/Laws/Walks.lean ====
section
/-!
SUPPORT. What a walk over the table does to one slot and to one channel: a DROP, a KEEP, a SWEEP STEP and CLEAR TABLE
(R118, R144 to R147, R175).
-/
namespace Sys2Proof.Machine

/-- The unit's choice leaves the table as it stands. -/
@[simp] theorem State.cell_chooseDerive (s : State) (i : Slot) : s.chooseDerive.cell i = s.cell i :=
  State.chooseDerive_field (fun t => t.cell i) s fun _ _ _ => rfl

/-- The unit's choice leaves the channels as they stand. -/
@[simp] theorem State.channel_chooseDerive (s : State) (c : Chan) : s.chooseDerive.channel c = s.channel c :=
  State.chooseDerive_field (fun t => t.channel c) s fun _ _ _ => rfl

/-- Requests that leave the queue leave the table as it stands. -/
@[simp] theorem State.cell_leaveQueue (s : State) (p : Derivation → Bool) (i : Slot) :
    (s.leaveQueue p).cell i = s.cell i := rfl

/-- Requests that leave the queue take the references to them with them (R106). -/
@[simp] theorem State.channel_leaveQueue (s : State) (p : Derivation → Bool) (c : Chan) :
    (s.leaveQueue p).channel c = Channel.loseDerivation (goneNumbers p s.derive.queue) (s.channel c) := by
  unfold State.channel State.leaveQueue
  exact Vec.getElem_mapIdx _ s.channels c

/-- A slot after the table part of a DROP (R144, R145). -/
@[simp] theorem State.cell_dropTable (s : State) (d : Nat) (i : Slot) :
    (s.dropTable d).cell i = (s.cell i).dropped d := by simp [State.dropTable]

/-- A channel after the table part of a DROP (R146). -/
@[simp] theorem State.channel_dropTable (s : State) (d : Nat) (c : Chan) :
    (s.dropTable d).channel c = (s.channel c).loseWinner fun i => (s.cell i).dropUnseats d := by
  simp [State.dropTable]

/-- A slot after a DROP (R144, R145). -/
@[simp] theorem State.cell_dropScope (s : State) (d : Nat) (i : Slot) :
    (s.dropScope d).cell i = (s.cell i).dropped d := by simp [State.dropScope]

/-- A channel after a DROP (R146, R106). -/
@[simp] theorem State.channel_dropScope (s : State) (d : Nat) (c : Chan) :
    (s.dropScope d).channel c =
      Channel.loseDerivation (goneNumbers (fun q => q.issueDepth == d) s.derive.queue)
        ((s.channel c).loseWinner fun i => (s.cell i).dropUnseats d) := by
  simp [State.dropScope]; rfl

/-- A slot after a KEEP (R147). -/
@[simp] theorem State.cell_keepScope (s : State) (d : Nat) (i : Slot) :
    (s.keepScope d).cell i = (s.cell i).kept d := by
  have h : (s.keepScope d).cell i = (s.mapCells fun _ c => c.kept d).cell i := rfl
  rw [h, State.cell_mapCells]

/-- A slot after a SWEEP STEP (R118). -/
@[simp] theorem State.cell_sweepBlock (s : State) (w : Sweep) (b : Block) (i : Slot) :
    (s.sweepBlock w b).cell i = if inBlock b i then (s.cell i).aged w.snapshot (s.isWinner i) else s.cell i := by
  have h : (s.sweepBlock w b).cell i =
      (s.mapCells fun i c => if inBlock b i then c.aged w.snapshot (s.isWinner i) else c).cell i := by
    unfold State.sweepBlock State.afterStep
    split <;> rfl
  rw [h, State.cell_mapCells]

/-- A slot after CLEAR TABLE (R25, R175). -/
@[simp] theorem State.cell_clearAll (s : State) (i : Slot) : s.clearAll.cell i = (s.cell i).wiped := by
  have h : s.clearAll.cell i = (s.mapCells fun _ c => c.wiped).cell i := rfl
  rw [h, State.cell_mapCells]

end Sys2Proof.Machine
end

