-- ==== Sys2Proof/Tests/Slice0.lean ====
section
/-!
SUPPORT. The model's own tests: an ill-formed command for each check of WellFormed, the spec's worked examples, and a
witness for the hypotheses of each statement.
-/
namespace Sys2Proof.Tests

open Sys2Proof Sys2Proof.Machine

-- One theorem after another: many at once would each hold a stack of their own.
set_option Elab.async false

/-! ### WellFormed refuses what the outside cannot send -/

/-- The first number no message field can carry. -/
def big : Nat := 2097152

theorem test_wf_number : numberOk 2097151 = true ∧ numberOk big = false := by decide

theorem test_wf_signed :
    signedOk 1048575 = true ∧ signedOk (-1048576) = true ∧ signedOk 1048576 = false ∧ signedOk (-1048577) = false := by
  decide

theorem test_wf_designator :
    (Designator.absolute big).wf = false ∧ (Designator.cursorOffset 1048576).wf = false := by decide

theorem test_wf_key :
    Key.wf { u := big, v := 0, level := 0, tag := 0 } = false ∧
      Key.wf { u := 0, v := big, level := 0, tag := 0 } = false ∧
      Key.wf { u := 0, v := 0, level := big, tag := 0 } = false ∧
      Key.wf { u := 0, v := 0, level := 0, tag := big } = false := by decide

/-- A body that carries nothing. -/
def noBody : BodyParts := { gains := none, matrix := none, reference := none, limits := none }

theorem test_wf_body :
    BodyParts.wf { noBody with gains := some { gR := big, gG := 0, gB := 0 } } = false ∧
      BodyParts.wf { noBody with reference := some { r := 0, g := 0, b := big } } = false ∧
      BodyParts.wf { noBody with limits := some { tolerance := big, streakLimit := 1 } } = false ∧
      BodyParts.wf
          { noBody with
            matrix :=
              some
                { m11 := 1048576, m12 := 0, m13 := 0, m21 := 0, m22 := 0, m23 := 0, m31 := 0, m32 := 0
                  m33 := 0 } } = false := by decide

theorem test_wf_kind : (Instr.unknownKindWord 1).wf = false ∧ (Instr.unknownKindWord 5).wf = true := by decide

theorem test_wf_dropped :
    (Instr.messageDropped .idle 0x10).wf = false ∧ (Instr.messageDropped .working 0).wf = false ∧
      (Instr.messageDropped .working 0x10).wf = true := by decide

theorem test_wf_cut_short :
    (Instr.messageCutShort 0x50).wf = false ∧ (Instr.messageCutShort 0x10).wf = true := by decide

theorem test_wf_malformed :
    (Instr.malformed 0).wf = false ∧ (Instr.malformed 0x50).wf = false ∧ (Instr.malformed 0x99).wf = true := by
  decide

/-- Fields that carry nothing. -/
def noProfile : ProfileFields :=
  { du := none, dv := none, dl := none, tagMode := none, confidenceFloor := none, doubtLimit := none
    learningReach := none, learningRadius := none }

/-- Fields that carry nothing. -/
def noChannel : ChannelFields :=
  { enabled := none, zoneSet := none, glideLength := none, pace := none, flapLimit := none, flapWindow := none
    learn := none, learnClass := none, learnWeight := none }

/-- Fields that carry nothing. -/
def noClass : ClassFields := { prescale := none, idleAt := none, dormantAt := none, retireAt := none }

theorem test_wf_settings :
    (Instr.setProfile big noProfile).wf = false ∧ (Instr.setProfile 0 { noProfile with dl := some big }).wf = false ∧
      (Instr.setChannel big noChannel).wf = false ∧
      (Instr.setChannel 0 { noChannel with pace := some big }).wf = false ∧ (Instr.setClass big noClass).wf = false ∧
      (Instr.setClass 0 { noClass with retireAt := some big }).wf = false ∧
      (Instr.setLearning (some big) none).wf = false ∧ (Instr.setServiceMatch 0 big).wf = false ∧
      (Instr.setCursor big 0).wf = false ∧ (Instr.setCursor 0 big).wf = false ∧ (Instr.stageProfile big).wf = false ∧
      (Instr.readChannel big).wf = false ∧ (Instr.closeScope big).wf = false ∧ (Instr.clearCauses big).wf = false ∧
      (Instr.setNoticeMask big).wf = false ∧ (Instr.setState .cursor big).wf = false := by decide

/-! ### Messages and words, written out from the Layouts -/

theorem test_word_open : decodeReadingWord 0x1000000C000000FF = .openWord 255 12 := by decide +kernel

theorem test_word_zone : decodeReadingWord 0x2000028000000000 = .zoneWord 5 0 0 0 0 := by decide +kernel

theorem test_message_designator :
    parseMessage 0x12 [0x00, 0xC8, 0x01] = .got (.retire (.absolute 200)) [] ∧
      parseMessage 0x14 [0x02, 0x05] = .got (.pin (.cursorOffset (-3))) [] ∧ parseMessage 0x14 [0x06] = .bad [] ∧
      parseMessage 0x14 [0x00, 0x80, 0x80, 0x80] = .bad [] ∧ parseMessage 0x12 [0x00, 0xC8] = .more := by
  decide +kernel

/-- R177: a fault is judged at the byte that shows it: a kind that is past its list though it continues, a selector byte
that sets a bit beyond the list though it continues; a byte that can still be made good is not. -/
theorem test_malformed_at_once :
    selectPeriod .idle 0 [0x14, 0x86] = .malformed 0x14 ∧ selectPeriod .idle 0 [0x14, 0x85] = .messageCutShort 0x14 ∧
      selectPeriod .idle 0 [0x14, 0x81, 0x00] = .pin .cursor ∧
      parseMessage 0x10 [0x04, 0x00, 0x01, 0x00, 0x00, 0x00, 0x00, 0xA0, 0x55] = .bad [0x55] ∧
      parseMessage 0x10 [0x04, 0x00, 0x01, 0x00, 0x00, 0x00, 0x00, 0x9F] = .more ∧
      parseMessage 0x20 [0x00, 0x80, 0x82] = .bad [] ∧ parseMessage 0x20 [0x00, 0x80, 0x81] = .more ∧
      parseMessage 0x30 [0x00] = .got (.setLearning none none) [] := by decide +kernel

theorem test_period :
    selectPeriod .idle 0 [0x50] = .restart ∧ selectPeriod .working 0 [0x50] = .messageDropped .working 0x50 ∧
      selectPeriod .idle 0 [0x10, 0x01] = .messageCutShort 0x10 ∧ selectPeriod .idle 0 [0x99] = .malformed 0x99 ∧
      selectPeriod .idle 0 [] = .selectAborted ∧ selectPeriod .replyReady 4 [0, 0, 0, 0] = .fetchCutShort 3 ∧
      selectPeriod .replyReady 4 [0, 0, 0, 0, 0, 0] = .fetch .replyReady 1 := by decide +kernel

/-! ### States the tests are run on -/

/-- A grade that differs from unity in its red gain. -/
def red (gR : Int) : Grade := { Grade.unity with gR := gR }

/-- A fresh illuminant body. -/
def light (gR : Int) (cls : ClassNo) : Illuminant :=
  { grade := red gR, cls := cls, vigour := .active, idleTicks := 0, touched := false, takeovers := 0, doubt := 0 }

/-- A committed, unpinned, authored entry. -/
def authored (k : Key) (b : Body) : Entry :=
  { origin := .authored, key := k, stamp := 0, pin := false, shadow := none, body := b }

/-- A slot that is not EMPTY. -/
def full (generation : Nat) (e : Entry) : Cell := { generation := generation, entry := some e }

/-- The part after power-on but for some slots of its table. -/
def withCells (l : List (Slot × Cell)) : State :=
  { State.reset with table := l.foldl (fun t p => t.set p.1 p.2) State.reset.table }

/-- The grey post of 12.2. -/
def post (streak : Nat) : AnchorBody :=
  { supplied :=
      { reference := { r := 21400, g := 24000, b := 24100 }, limits := { tolerance := 45, streakLimit := 2 } }
    failStreak := streak, lastOutcome := .none }

/-- Slot 1 of 12.2 with an owned depth, a generation and a red gain, and a body that carries them. -/
def reeds : Key := { u := 1460, v := 1660, level := 32, tag := 2 }

/-- The table of 12.2: three lights and the anchor in slot 60. -/
def dawn : State :=
  withCells
    [(0, full 1 (authored { u := 1400, v := 1700, level := 20, tag := 2 } (.illuminant .live (light 4600 0)))),
     (1, full 1 (authored reeds (.illuminant .live (light 4480 1)))),
     (2, full 1 (authored { u := 1560, v := 1580, level := 48, tag := 2 } (.illuminant .live (light 4300 1)))),
     (60, full 1 (authored { u := 0, v := 0, level := 0, tag := 2 } (.anchor (post 0))))]

/-- A channel of 12.2, with its winner and its delivered red gain. -/
def heron (winner : Option Slot) (gR : Int) : Channel :=
  { Channel.powerOn true 0x0660 with
    config :=
      { enabled := true, zoneSet := 0x0660, glideLength := 6, pace := 1, flapLimit := 4, flapWindow := 120
        learn := true, learnClass := 3, learnWeight := 64 }
    winner := winner, target := red gR, delivered := red gR }

/-- A closed frame without zone readings. -/
def frame (number : Nat) (anchors : List AnchorReading) : ClosedFrame :=
  { number := number, tag := 2, zones := Vector.replicate 16 none, anchors := anchors, release := false }

/-- The work of such a frame, in channel 0's part, with a reading for channel 0 alone. -/
def workOf (number : Nat) (r : ChannelInput) : FrameWork :=
  { frame := frame number [], inputs := #v[r, .outside, .outside, .outside], channel := 0, toCheck := [] }

/-- A state whose FRAME operation waits in the work of a frame. -/
def inFrame (s : State) (op : FrameOp) (w : FrameWork) : State :=
  { s with
    arbiter := { s.arbiter with frame := some op }
    path := { s.path with closing := .busy w none, lastAccepted := some w.frame.number } }

/-- A state whose SERVICE operation waits. -/
def inService (s : State) (op : ServiceOp) : State :=
  { s with arbiter := { s.arbiter with service := some op }, link := { s.link with state := .working .operation } }

/-- A request of the derivation queue, as channel 0 issued it at frame 1040 of 12.4. -/
def derivation (stage : Stage) (parents : Option (List Parent)) (result : Option Grade) : Derivation :=
  { number := 5, channel := 0, key := { u := 1500, v := 1630, level := 40, tag := 2 }, weight := 300, cls := 3
    issueDepth := 1, issueFrame := 1040, stage := stage, rerunUsed := false, parents := parents, result := result }

/-- A state with this derivation queue and this waiting operation of DERIVE. -/
def inDerive (s : State) (l : List Derivation) (op : Option DeriveOp) : State :=
  { s with derive := { s.derive with queue := l, nextNumber := 6 }, arbiter := { s.arbiter with derive := op } }

/-- The state a command answers, from a state; reset where it answers none. -/
def after (c : Instr) (s : State) : State :=
  match exec c s with
  | .next t => t
  | _ => State.reset

/-! ### The spec's worked examples -/

/-- 3.7: channel 1's reading of zones 5, 6, 9 and 10, and channel 2's DARK. -/
theorem test_channel_reading :
    let f : ClosedFrame :=
      { frame 1 [] with
        zones :=
          (((Vector.replicate 16 none).set 5 (some { u := 1510, v := 1610, level := 42, confidence := 120 })).set 6
            (some { u := 1520, v := 1600, level := 44, confidence := 50 })).set 9
            (some { u := 1480, v := 1650, level := 36, confidence := 10 }) }
    formReading 0x0660 16 f = .reading { key := { u := 1512, v := 1607, level := 42, tag := 2 }, weight := 170 } ∧
      formReading 0x000F 16 f = .dark := by decide +kernel

/-- The reading of channel 0 at frame 1000 of 12.3. -/
def reading1000 : ChannelReading := { key := { u := 1440, v := 1672, level := 30, tag := 2 }, weight := 300 }

/-- 12.3, frame 1000, as channel 0's MATCH finds the part. -/
def at1000 : State :=
  inFrame { dawn with channels := dawn.channels.set 0 (heron (some 0) 4600) } (.matching 0 reading1000.key .hold)
    (workOf 1000 (.reading reading1000))

/-- 12.3, frame 1000: the incumbent fails on u, OPEN gives slot 1, and the target moves. -/
theorem test_frame_match :
    let t := after .frameMatch at1000
    (t.channel 0).winner = some 1 ∧ (t.channel 0).switchCount = 1 ∧ (t.channel 0).target = red 4480 ∧
      (t.channel 0).stepsRemaining = 6 ∧ (t.channel 0).nextStep = 1001 ∧
      ((t.cell 1).live.map fun p => (p.2.touched, p.2.takeovers)) = some (true, 1) ∧ t.path.closing = .free ∧
      t.port.queue.map (fun r => (r.number, r.outcome, r.gliding)) = [(1000, .matched, true)] := by decide +kernel

/-- R34, R37: with two LIVE entries that match and no incumbent, a LOCKED match misses and still counts both. -/
theorem test_match_outcome :
    let s := withCells
      [(3, full 1 (authored reeds (.illuminant .live (light 4480 1)))),
       (9, full 1 (authored reeds (.illuminant .live (light 4460 1)))),
       (11, full 1 (authored reeds (.illuminant .held (light 4460 1))))]
    s.frameMatch reeds .locked none = { result := none, count := 2, multiple := true } := by decide +kernel

/-- 12.3, frames 1032 to 1037: the six steps of the glide. -/
theorem test_glide :
    ([1032, 1033, 1034, 1035, 1036, 1037].map fun n =>
        (((heron none 4480).retarget 1031 (red 4460)).advanceGlide n).delivered.gR) =
      [4477, 4474, 4471, 4468, 4464, 4460] := by decide +kernel

/-- 12.4, frame 1040: the miss issues request 5 at depth 1, and the unit submits its SEARCH. -/
theorem test_miss_issues :
    let s : State := { dawn with channels := dawn.channels.set 0 (heron none 4460), depth := 1 }
    let t :=
      State.considerMiss { s with derive := { s.derive with nextNumber := 5 } } 0
        { key := { u := 1500, v := 1630, level := 40, tag := 2 }, weight := 300 } 1040
    t.derive.queue = [derivation .searching none none] ∧ t.arbiter.derive = some (.search 5) ∧
      (t.channel 0).pendingDerivation = some 5 := by decide +kernel

/-- 12.4: the table with slot 1 amended. -/
def amendedDawn : State :=
  { dawn with table := dawn.table.set 1 (full 2 (authored reeds (.illuminant .live (light 4460 1)))) }

/-- 12.4: the parents of request 5. -/
def parents5 : List Parent :=
  [{ slot := 1, generation := 2, distance := 70 }, { slot := 2, generation := 1, distance := 110 },
   { slot := 0, generation := 1, distance := 170 }]

/-- 12.4: request 5 takes slots 1, 2 and 0 as parents, and its blend gives the red gain 4439. -/
theorem test_search_and_blend :
    let q := derivation .searching none none
    let t := (inDerive amendedDawn [q] none).adoptParents q [1, 2, 0]
    let u := after .blendComplete t
    t.derive.queue = [derivation .blending (some parents5) none] ∧ t.derive.waitingBlends.length = 1 ∧
      u.derive.queue = [derivation .ready (some parents5) (some (red 4439))] ∧
      u.arbiter.derive = some (.install 5) := by decide +kernel

/-- 5.10.2: a gain and a coefficient of the blend of slots 5, 480 and 11. -/
theorem test_blend_grade :
    let g :=
      blendGrade
        [{ grade := { red 4300 with m13 := -120 }, distance := 80 },
         { grade := { red 4400 with m13 := -200 }, distance := 90 },
         { grade := { red 4200 with m13 := -40 }, distance := 180 }]
    g.gR = 4317 ∧ g.m13 = -133 := by decide +kernel

/-- The state of 12.4 once the INSTALL is granted, with the depth of the take. -/
def installing : State :=
  { inDerive amendedDawn [derivation .ready (some parents5) (some (red 4439))] none with depth := 1 }

/-- 12.4: the INSTALL of request 5 fills slot 511. -/
theorem test_install :
    let t := installing.placeLearned (derivation .ready (some parents5) (some (red 4439))) (red 4439)
    t.cell 511 =
        full 1
          { origin :=
              .learned
                [{ slot := 1, generation := 2 }, { slot := 2, generation := 1 }, { slot := 0, generation := 1 }] 1040
            key := { u := 1500, v := 1630, level := 40, tag := 2 }, stamp := 1, pin := false, shadow := none
            body := .illuminant .live (light 4439 3) } ∧
      t.derive.queue = [] ∧
      t.derive.lastEnding =
        some { number := 5, channel := 0, issueFrame := 1040, ending := .installed 511 } := by decide +kernel

/-- 12.5: the ticks that the open word of frame 1050 passes on after frame 1049. -/
theorem test_ticks :
    ((after (.openWord 1050 2) { dawn with path := { dawn.path with lastAccepted := some 1049 } }).aging.pendingTicks) =
      #v[1, 0, 0, 1] := by decide +kernel

/-- The sweep of 12.5, ready for its first step, over a touched slot 0. -/
def sweeping : State :=
  let s : State :=
    { dawn with
      table :=
        dawn.table.set 0
          (full 1
            (authored { u := 1400, v := 1700, level := 20, tag := 2 }
              (.illuminant .live { light 4600 0 with touched := true, idleTicks := 3 }))) }
  after .sweepStart { s with aging := { s.aging with pendingTicks := #v[1, 0, 0, 1] } }

/-- 12.5: block 0's step clears slot 0's touch and passes class 1 and the anchor over. -/
theorem test_sweep_step :
    let t := after .sweepStep sweeping
    (t.cell 0).live.map (fun p => (p.2.touched, p.2.idleTicks, p.2.vigour)) = some (false, 0, .active) ∧
      t.cell 1 = sweeping.cell 1 ∧ t.cell 60 = sweeping.cell 60 ∧ t.arbiter.aging = some 1 := by decide +kernel

/-- The grade of 7.3.1. -/
def grade731 : Grade :=
  { gR := 4400, gG := 4096, gB := 3800, m11 := 4300, m12 := -150, m13 := -54, m21 := -80, m22 := 4240, m23 := -64
    m31 := -20, m32 := -200, m33 := 4316 }

/-- The anchor reading of 7.3.1, for the post in slot 60. -/
def reading731 : AnchorReading := { slot := 60, channel := 0, r := 20000, g := 24000, b := 26000 }

/-- 7.3.1: the corrected colour; it passes with tolerance 60 and fails with tolerance 45. -/
theorem test_corrected_colour :
    grade731.apply 20000 24000 26000 = (21357, 24047, 24139) ∧
      Supplied.passes
          { reference := { r := 21400, g := 24000, b := 24100 }, limits := { tolerance := 60, streakLimit := 2 } }
          grade731 reading731 = true ∧
      (post 0).supplied.passes grade731 reading731 = false := by decide +kernel

/-- 12.6: the anchor's check granted in channel 0's part, with slot 511 as the winner, its doubt and the fail streak. -/
def checking (streak doubt : Nat) : State :=
  let e := authored reeds (.illuminant .live { light 4439 3 with doubt := doubt })
  let s := withCells [(60, full 1 (authored { reeds with u := 0 } (.anchor (post streak)))), (511, full 1 e)]
  inFrame
    { s with
      channels :=
        (s.channels.set 0 { heron (some 511) 4439 with delivered := grade731 }).set 1 (heron (some 511) 4439) }
    (.anchor reading731 1055 2) (workOf 1055 .dark)

/-- 12.6, frame 1055: the drift that brings the doubt to the limit moves slot 511 to HELD. -/
theorem test_drift :
    let t := after .anchorCheck (checking 1 2)
    (t.cell 511).state = .held ∧ (t.cell 511).generation = 2 ∧ (t.channel 0).winner = none ∧
      (t.channel 1).winner = none ∧ t.notice .drift = { pending := true, detail := 60 } ∧
      t.notice .entryHeld = { pending := true, detail := 511 } ∧
      (t.cell 60).anchor.map (fun p => (p.2.failStreak, p.2.lastOutcome)) = some (0, .fail) := by decide +kernel

/-- 12.7: the part before the WALK of the DROP. -/
def dropping : State :=
  let shadow : Shadow := { depth := 1, key := reeds, pin := false, body := .illuminant .live (red 4480) 1 }
  let s : State :=
    { amendedDawn with
      table :=
        (amendedDawn.table.set 1
            (full 2 { authored reeds (.illuminant .live (light 4460 1)) with shadow := some shadow })).set
          511 (full 2 { authored reeds (.illuminant .held (light 4439 3)) with stamp := 1 })
      depth := 1 }
  inService (inDerive s [{ derivation .blending (some parents5) none with number := 6 }] none) (.drop 1)

/-- 12.7: what the DROP leaves, and its reply. -/
theorem test_drop :
    let t := after .dropWalk dropping
    t.cell 1 = full 3 (authored reeds (.illuminant .live (light 4480 1))) ∧
      t.cell 511 = { generation := 3, entry := none } ∧ t.derive.queue = [] ∧ t.depth = 0 ∧
      t.link.state = .replyReady (.done (.dropped 0 1 1 1)) := by decide +kernel

/-- The KEEP of the same take lowers the stamp of slot 511 and folds the shadow of slot 1. -/
theorem test_keep :
    let t := after .keepWalk { dropping with arbiter := { dropping.arbiter with service := some (.keep 1) } }
    t.cell 1 = full 2 (authored reeds (.illuminant .live (light 4460 1))) ∧
      t.cell 511 = full 2 (authored reeds (.illuminant .held (light 4439 3))) ∧
      t.link.state = .replyReady (.done (.kept 0 1 1 1 1)) := by decide +kernel

/-- 11.4.1: the header of channel 1's record for frame 209, and two value words. -/
theorem test_record_words :
    GradeRecord.words
        { number := 209, channel := 1, outcome := .matched, winner := some 480, gliding := false, locked := false
          learning := false, heldOver := false, grade := { red 4336 with m12 := -250 } } =
      [0x10003C15000000D1, 0x10001000100010F0, 0x100000000000FF06, 0x1000000000000000] := by decide +kernel

/-- R180: READ STATUS after power-on, its length and its counts. -/
theorem test_status_reply :
    ((Reply.done (.status State.reset.statusReport)).bytes.take 7) = [0x01, 0x16, 0x00, 0x12, 0xD5, 0x00, 0x02] := by
  decide +kernel

/-! ### Witnesses: states and operands that meet the hypotheses of each statement

The statements not named here (CommandsAnswerAndKeepQueue, PowerOnValuesOfEveryBlock, PowerOnMeetsTheInvariants) have no
hypothesis. -/

/-- A state with this receiving state, closing state, last accepted number and list of anchor readings. -/
def inPath (r : Receiving) (c : Closing) (last : Option Nat) (anchors : List AnchorReading) : State :=
  { State.reset with
    path :=
      { State.reset.path with
        receiving := r, tag := last.map fun _ => 2, closing := c, lastAccepted := last, anchors := anchors } }

/-- The record of an open frame. -/
def opened : OpenFrame := { number := 100, tag := 2, release := false }

/-- The reset part before it is ready. -/
def asleep : State := { State.reset with lines := { resetAsserted := false, ready := false } }

/-- A power-on slot is EMPTY. -/
theorem reset_cell (i : Slot) : State.reset.cell i = Cell.blank := by simp [State.cell, State.reset]

/-- The power-on part with a pull in progress. -/
def delivering (l : List Word) : State :=
  { State.reset with port := { State.reset.port with delivering := l } }

theorem witness_StepTakesFrontCommand :
    State.reset.pending = [] ∧ State.reset.port.delivering = [] ∧ (delivering [7]).pending = [] ∧
      (delivering [7]).port.delivering = [7] := ⟨rfl, rfl, rfl, rfl⟩

theorem witness_LinesReturnAndReadyThePart :
    State.reset.lines.resetAsserted = false ∧ (after .reset State.reset).lines.resetAsserted = true ∧
      asleep.settled = true ∧ asleep.lines.ready = false ∧ isReadingWord .closeWord = true ∧
      carriesMessage .readStatus = true ∧ carriesMessage (.malformed 0x99) = true ∧ isPeriod .selectAborted = true ∧
      carriesMessage .selectAborted = false := by decide +kernel

theorem witness_DueEventsComeFirst :
    State.reset.settled = true ∧ comesAfterDueEvents .placeGrant = true ∧
      State.reset.link.state = .idle ∧ State.reset.path.closing = .free ∧ State.reset.derive.waitingBlends = [] ∧
      ∀ k : ClassNo, State.reset.aging.pendingTicks[k] = 0 := by decide +kernel

/-- The power-on part with these operations waiting, after a grant to a requester. -/
def waitingFor (r : Requester) (service : Option ServiceOp) (derive : Option DeriveOp) (aging : Option Block) : State :=
  { State.reset with
    arbiter := { rotation := r, frame := none, service := service, derive := derive, aging := aging } }

theorem witness_ArbiterGrantsFirstAfterRotation :
    (waitingFor .service (some .restart) (some (.search 5)) none).arbiter.next = some .derive ∧
      (waitingFor .derive (some .restart) (some (.search 5)) none).arbiter.next = some .service ∧
      (waitingFor .aging none none (some 7)).arbiter.next = some .aging ∧
      (waitingFor .frame none none none).arbiter.next = none ∧ (waitingFor .frame none none none).settled = true ∧
      ∀ s : State, ∃ waits : Requester → Prop,
        (waits .frame ↔ s.arbiter.frame ≠ none) ∧ (waits .service ↔ s.arbiter.service ≠ none) ∧
          (waits .derive ↔ s.arbiter.derive ≠ none) ∧ (waits .aging ↔ s.arbiter.aging ≠ none) := by
  refine ⟨by decide +kernel, by decide +kernel, by decide +kernel, by decide +kernel, by decide +kernel, fun s => ?_⟩
  exact ⟨fun r => s.arbiter.waiting r = true, by simp [Arbiter.waiting, Option.isSome_iff_ne_none]⟩

theorem witness_OpenWordIsJudged :
    (let s := inPath .idle (.busy (workOf 99 .dark) (some (frame 100 []))) (some 100) [];
      s.reads = true ∧ s.path.closing = .busy (workOf 99 .dark) (some (frame 100 []))) ∧
      (let s := inPath (.opened opened) .free (some 100) [];
        s.reads = true ∧ s.path.lastAccepted = some 100 ∧ (100#32).toNat ≤ 100 ∧ 100 < (101#32).toNat) ∧
      State.reset.reads = true ∧ State.reset.path.lastAccepted = none := by decide +kernel

/-- R51: a refused open word abandons the open frame and leaves the recorded tag. -/
theorem test_refusal_keeps_tag :
    (after (.openWord 100 7) (inPath (.opened opened) .free (some 100) [])).path.receiving = .discarding ∧
      (after (.openWord 100 7) (inPath (.opened opened) .free (some 100) [])).path.tag = some 2 ∧
      (after (.openWord 101 7) (inPath (.opened opened) .free (some 100) [])).path.tag = some 7 := by
  decide +kernel

theorem witness_ZoneAndUnknownKindWords :
    (inPath (.opened opened) .free (some 100) []).reads = true ∧ (inPath .idle .free none []).reads = true ∧
      (inPath .discarding .free none []).reads = true := by decide +kernel

theorem witness_AnchorAndCloseWords :
    (let s := inPath (.opened opened) .free (some 100) (List.replicate 3 reading731);
      s.reads = true ∧ s.path.anchors.length < 4) ∧
      (let s := inPath (.opened opened) .free (some 100) (List.replicate 4 reading731);
        s.reads = true ∧ 4 ≤ s.path.anchors.length) ∧
      (let s := inPath (.opened opened) (.busy (workOf 99 .dark) none) (some 100) [];
        s.reads = true ∧ s.path.closing = .busy (workOf 99 .dark) none) ∧
      (inPath .idle .free none []).reads = true ∧ (inPath .discarding .free none []).reads = true := by
  decide +kernel

/-- A handed-over frame while a SET CHANNEL waits. -/
def handedWhileWaiting : State :=
  { inPath .idle (.handed (frame 100 [])) (some 100) [] with
    link := { state := .working (.setChannel 0 noChannel), out := [] } }

theorem witness_FrameWorkStarts :
    handedWhileWaiting.path.closing = .handed (frame 100 []) ∧ handedWhileWaiting.channelDue = true ∧
      (inPath .idle (.handed (frame 100 [])) (some 100) []).channelDue = false ∧
      ({ inPath .idle (.handed (frame 100 [])) (some 100) [] with
            channels := Vector.replicate 4 (Channel.powerOn false 0) } : State).channelDue = false ∧
      (∀ c : Chan, ((Vector.replicate 4 (Channel.powerOn false 0))[c] : Channel).config.enabled = false) ∧
      (frame 100 []).anchors = [] := by decide +kernel

theorem witness_PartsRunInChannelOrder :
    (∀ i ∈ [ChannelInput.outside, .dark, .reading reading1000], (workOf 100 i).inputs[(0 : Chan)] = i) ∧
      (frame 100 []).anchorsFor 0 = [] ∧ (frame 100 [reading731]).anchorsFor 0 = [reading731] := by decide +kernel

/-- 3.7's frame with zone 5 alone. -/
def zoneFive : ClosedFrame :=
  { frame 1 [] with zones := (Vector.replicate 16 none).set 5 (some ⟨1510, 1610, 42, 120⟩) }

theorem witness_ChannelReadingIsFormed :
    (zoneFive.zones[(5 : Zone)] : Option ZoneReading) = some ⟨1510, 1610, 42, 120⟩ ∧
      (∀ z : Zone, z ≠ 5 → (zoneFive.zones[z] : Option ZoneReading) = none) ∧
      (0x0660#16).getLsbD 5 = true ∧ (0x000F#16).getLsbD 5 = false ∧ 16 ≤ 120 ∧
      (∑ z : Zone, if z = 5 then 120 else 0) = 120 ∧ (∑ _z : Zone, 0) = 0 := by
  refine ⟨by decide +kernel, by decide +kernel, by decide, by decide, by decide, ?_, ?_⟩ <;> simp

theorem witness_FrameMatchResultByMode :
    (∃ e x, (dawn.cell 1).holdsLive e x ∧ dawn.frameProfile.admits reading1000.key e.key = true) ∧
      (¬∃ e x, (State.reset.cell 0).holdsLive e x ∧ State.reset.frameProfile.admits reading1000.key e.key = true) ∧
      ¬∃ e x, (dawn.cell 1).holdsLive e x ∧ x.vigour = .dormant := by
  have h : (dawn.cell 1).entry = some (authored reeds (.illuminant .live (light 4480 1))) := by decide +kernel
  refine ⟨⟨_, _, ⟨h, rfl⟩, by decide +kernel⟩, ?_, ?_⟩
  · simp [Cell.holdsLive, reset_cell, Cell.blank]
  · simp [Cell.holdsLive, h, authored, light]

theorem witness_FrameMatchFindsEntry :
    at1000.grantsFrame (.matching 0 reading1000.key .hold) (workOf 1000 (.reading reading1000)) none ∧
      at1000.frameResult reading1000.key .hold (at1000.channel 0).winner = some 1 ∧
      (at1000.cell 1).holdsLive (authored reeds (.illuminant .live (light 4480 1))) (light 4480 1) := by
  unfold State.grantsFrame Cell.holdsLive; decide +kernel

/-- A MATCH in LOCKED mode without an incumbent: a miss. -/
def missing : State :=
  inFrame State.reset (.matching 0 reading1000.key .locked) (workOf 1000 (.reading reading1000))

theorem witness_FrameMatchMisses :
    missing.grantsFrame (.matching 0 reading1000.key .locked) (workOf 1000 (.reading reading1000)) none ∧
      missing.frameResult reading1000.key .locked (missing.channel 0).winner = none ∧
      (workOf 1000 (.reading reading1000)).inputs[(0 : Chan)] = .reading reading1000 := by
  unfold State.grantsFrame; decide +kernel

/-- The power-on part with a channel that learns, its pending derivation, and a derivation queue. -/
def learning (c : Chan) (pending : Option Nat) (queue : List Derivation) : State :=
  let s : State :=
    { State.reset with
      channels := State.reset.channels.set c { heron none 4600 with pendingDerivation := pending } }
  inDerive s queue none

/-- A reading that request 5 coalesces, and one it does not. -/
def near5 (u : Nat) : ChannelReading := { key := { u := u, v := 1640, level := 38, tag := 2 }, weight := 64 }

/-- Two requests with the numbers 255 and 0, of one channel and the next. -/
def wrapped (c : Chan) : List Derivation :=
  [{ derivation .waiting none none with number := 255, channel := c },
   { derivation .waiting none none with number := 0, channel := c + 1 }]

theorem witness_MissIsConsidered :
    (State.reset.channel 0).config.learn = false ∧ ((learning 0 none []).channel 0).config.learn = true ∧
      63 < ((learning 0 none []).channel 0).config.learnWeight ∧
      ((learning 0 (some 5) []).channel 0).pendingDerivation ≠ none ∧
      (let s := learning 1 none [derivation .waiting none none];
        (s.channel 1).config.learnWeight ≤ (near5 1490).weight ∧ (s.channel 1).pendingDerivation = none ∧
          s.derive.queue = [] ++ derivation .waiting none none :: [] ∧
          s.frameProfile.admits (near5 1490).key (derivation .waiting none none).key = true ∧
          s.frameProfile.admits (near5 1400).key (derivation .waiting none none).key = false ∧
          (∀ p ∈ s.derive.queue, p.channel ≠ 1)) ∧
      (let s := learning 0 none [derivation .waiting none none];
        ∃ p ∈ s.derive.queue, p.channel = 0 ∧ s.frameProfile.admits (near5 1400).key p.key = false) ∧
      (let s := learning 0 none (wrapped 1); s.derive.queue.length ≤ 4 ∧ s.derive.nextNumber ≤ 255) := by
  decide +kernel

/-- R90: from 255 on, past the numbers 255 and 0 that queued requests hold, a new request takes 1. -/
theorem test_new_number :
    DerivationUnit.newNumber { State.reset.derive with queue := wrapped 1, nextNumber := 255 } = 1 ∧
      DerivationUnit.newNumber { State.reset.derive with queue := wrapped 1, nextNumber := 254 } = 254 := by
  decide +kernel

theorem witness_DerivationUnitChooses :
    (inDerive State.reset [derivation .searching none none] (some (.search 5))).arbiter.derive = some (.search 5) ∧
      (inDerive State.reset [] none).derive.queue = [] ∧
      (derivation .ready none (some (red 0))).stage = .ready ∧
      (∀ p ∈ [derivation .blending (some []) none], p.stage ≠ .waiting) ∧
      (let l := [derivation .blending (some []) none, { derivation .waiting none none with number := 6 }];
        l = [derivation .blending (some []) none] ++ { derivation .waiting none none with number := 6 } :: [] ∧
          (∀ b ∈ [derivation .blending (some []) none], b.stage ≠ .waiting) ∧
          ∀ b ∈ [derivation .blending (some []) none] ++ [], b.number ≠ 6) := by decide +kernel

/-- The entry of the post in `checking`. -/
def postEntry (streak : Nat) : Entry := authored { reeds with u := 0 } (.anchor (post streak))

/-- `checking` with another glide state. -/
def checkingGlide (streak : Nat) : State :=
  let s := checking streak 0
  { s with channels := s.channels.set 0 { s.channel 0 with glide := .gliding, stepsRemaining := 1 } }

theorem witness_AnchorCheckEndsWithoutFailing :
    (let s := inFrame State.reset (.anchor reading731 1055 2) (workOf 1055 .dark);
      s.grantsFrame (.anchor reading731 1055 2) (workOf 1055 .dark) none ∧ (s.cell 60).state ≠ .anchor) ∧
      (workOf 1055 .dark).inputs[(0 : Chan)] ≠ .outside ∧
      (checking 1 0).grantsFrame (.anchor reading731 1055 2) (workOf 1055 .dark) none ∧
      ((checking 1 0).cell 60).entry = some (postEntry 1) ∧ (postEntry 1).body = .anchor (post 1) ∧
      (postEntry 1).key.tag = 2 ∧ (postEntry 1).key.tag ≠ 3 ∧
      (post 1).supplied.passes ((checking 1 0).channel 0).delivered { reading731 with g := 23950 } = true ∧
      (checkingGlide 1).grantsFrame (.anchor reading731 1055 2) (workOf 1055 .dark) none ∧
      (post 1).supplied.passes ((checkingGlide 1).channel 0).delivered reading731 = false ∧
      ((checkingGlide 1).channel 0).glide = .gliding := by
  unfold State.grantsFrame; decide +kernel

theorem witness_AnchorFailureCountsAndDrifts :
    (checking 0 0).grantsFrame (.anchor reading731 1055 2) (workOf 1055 .dark) none ∧
      ((checking 0 0).cell 60).entry = some (postEntry 0) ∧
      (post 0).supplied.passes ((checking 0 0).channel 0).delivered reading731 = false ∧
      ((checking 0 0).channel 0).glide = .steady ∧ (post 0).failStreak + 1 ≠ (post 0).supplied.limits.streakLimit ∧
      (post 1).failStreak + 1 = (post 1).supplied.limits.streakLimit ∧
      ((checking 1 1).channel 0).winner = some 511 ∧ ((checking 1 2).cell 511).state = .live ∧
      min (1 + 1) 7 < (checking 1 1).frameProfile.doubtLimit ∧
      (checking 1 2).frameProfile.doubtLimit ≤ min (2 + 1) 7 := by
  unfold State.grantsFrame; decide +kernel

theorem witness_AnchorColourIsCorrectedAndCompared :
    ∃ clamped : Int → Int, (∀ x, clamped x = max 0 (min 65535 x)) ∧ clamped (4400 * 20000 / 4096) = 21484 :=
  ⟨fun x => max 0 (min 65535 x), fun _ => rfl, by decide⟩

theorem witness_FlapWindowRollsOnItsGrid :
    1 ≤ (heron none 0).config.flapWindow ∧ (heron none 0).windowEnd = none ∧
      (let ch := { heron none 0 with windowEnd := some 121 };
        ch.windowEnd = some 121 ∧ 120 < 121 ∧ 121 ≤ 121) := by decide +kernel

theorem witness_GlideMovesTowardTarget :
    red 1 ≠ (heron none 0).target ∧ (heron none 0).config.glideLength ≠ 0 ∧ (heron none 0).glide = .steady ∧
      ({ heron none 0 with config := { (heron none 0).config with glideLength := 0 } } : Channel).config.glideLength =
        0 ∧
      (let ch := (heron none 0).retarget 10 (red 60);
        ch.glide = .gliding ∧ 1 ≤ ch.stepsRemaining ∧ 10 < ch.nextStep ∧ ch.stepsRemaining = 4 + 2 ∧
          ch.nextStep ≤ 11 ∧ 11 < ch.nextStep + ch.config.pace ∧
          ch.nextStep + ch.config.pace * (ch.stepsRemaining - 1) ≤ 16) := by decide +kernel

/-- A record of a channel. -/
def recordOf (c : Chan) : GradeRecord := (heron none 4600).record 100 c .dark

theorem witness_GradePortQueuesRecords :
    (List.replicate 7 (recordOf 1)).length < 8 ∧ 8 ≤ (List.replicate 8 (recordOf 1)).length ∧
      (∀ b ∈ List.replicate 8 (recordOf 1), b.channel ≠ 0) ∧
      (let l := recordOf 1 :: recordOf 0 :: List.replicate 6 (recordOf 1);
        l = [recordOf 1] ++ recordOf 0 :: List.replicate 6 (recordOf 1) ∧ 8 ≤ l.length ∧
          (∀ b ∈ [recordOf 1], b.channel ≠ 0) ∧ (recordOf 0).channel = 0) ∧
      State.reset.settled = true ∧ State.reset.port.queue = [] ∧
      (let s : State := { State.reset with port := { queue := [recordOf 1], delivering := [7, 8], out := [6] } };
        s.settled = true ∧ (recordOf 1).words = (recordOf 1).header :: (recordOf 1).words.tail) := by decide +kernel

theorem witness_RecordWordsCarryTheirFields :
    (let r := { recordOf 3 with number := 4294967295, winner := some 511, grade := { red 16383 with m33 := -16384 } };
      r.number < 4294967296 ∧ r.grade.holds) ∧ (recordOf 0).winner = none := by
  unfold Grade.holds coefficientHolds; decide +kernel

/-- A pull under way: the part with one record, after the pull and so many further words. -/
def pulled (words : Nat) : State :=
  let s : State := { State.reset with port := { State.reset.port with queue := [recordOf 1] } }
  (List.range words).foldl (fun t _ => t.deliverWord) (after .gradePortPull s)

/-- R82, R84, R176: a record is delivered word by word; RESET ends the delivery and RESTART does not; a pull that follows
has the record whole before its own first word. -/
theorem test_pull_in_progress :
    (pulled 0).port.out = (recordOf 1).words.take 1 ∧ (pulled 0).port.delivering = (recordOf 1).words.drop 1 ∧
      (pulled 2).port.delivering = (recordOf 1).words.drop 3 ∧ (pulled 3).port.out = (recordOf 1).words ∧
      (pulled 3).deliverWord = pulled 3 ∧ (after .reset (pulled 1)).port.delivering = [] ∧
      (after .restartWalk (inService (pulled 1) .restart)).port = (pulled 1).port ∧
      (after .gradePortPull (pulled 1)).port =
        { queue := [], delivering := [], out := (recordOf 1).words ++ [0] } := by decide +kernel

theorem witness_SetChannelIsPerformedOrWaits :
    State.reset.listens = true ∧ State.reset.inWork 3 = false ∧ channelFieldsOk noChannel = true ∧
      channelFieldsOk { noChannel with pace := some 17 } = false ∧
      channelFieldsOk { noChannel with pace := some 16 } = true ∧ at1000.listens = true ∧ at1000.inWork 0 = true ∧
      handedWhileWaiting.link.state = .working (.setChannel 0 noChannel) ∧ handedWhileWaiting.inWork 0 = false ∧
      (State.reset.channel 0).config.enabled = true ∧ (State.reset.channel 1).config.enabled = false := by
  decide +kernel

/-- The lights of 5.10, but for slot 33, which the level keeps out. -/
def twilight : State :=
  withCells
    [(5, full 3 (authored { u := 1640, v := 1500, level := 56, tag := 2 } (.illuminant .live (light 4300 1)))),
     (11, full 1 (authored { u := 1800, v := 1600, level := 70, tag := 2 } (.illuminant .live (light 4200 1)))),
     (26, full 2 (authored { u := 1700, v := 1200, level := 60, tag := 2 } (.illuminant .live (light 4500 1)))),
     (480, full 7 (authored { u := 1750, v := 1560, level := 66, tag := 2 } (.illuminant .live (light 4400 1))))]

/-- The key of request 17 in 5.10. -/
def key17 : Key := { u := 1700, v := 1520, level := 60, tag := 2 }

/-- 5.10.2: the four candidates, of which a SEARCH leaves one out. -/
theorem twilight_candidates :
    ∀ i ∈ [(5 : Slot), 11, 26, 480], (twilight.cell i).isCandidate twilight.frameProfile key17 = true := by
  decide +kernel

theorem witness_SearchTakesNearestCandidates :
    ∃ j, (twilight.cell j).isCandidate twilight.frameProfile key17 = true ∧ j ∉ twilight.nearest key17 := by
  by_contra h
  push Not at h
  have hs : [(5 : Slot), 11, 26, 480] ⊆ twilight.nearest key17 := fun i hi => h i (twilight_candidates i hi)
  have hl := ((by decide : [(5 : Slot), 11, 26, 480].Nodup).subperm hs).length_le
  have := twilight.nearest_length key17
  simp only [List.length_cons, List.length_nil] at hl
  omega

/-- 5.10.2: the order of the four candidates. -/
theorem test_search_order :
    (byDistance (fun i => (twilight.cell i).distanceFrom key17) [5, 11, 26, 480]).take 3 = [5, 480, 11] := by
  decide +kernel

/-- Request 17 of 5.10 before its SEARCH. -/
def request17 (key : Key) : Derivation := { derivation .searching none none with number := 17, key := key }

theorem witness_SearchRecordsParentsOrAbandons :
    (let s := inDerive twilight [request17 key17] (some (.search 17));
      s.settled = true ∧ s.deriveGrant = some (.search 17) ∧ s.derive.queue = [] ++ request17 key17 :: [] ∧
        s.nearest (request17 key17).key ≠ []) ∧
      (let s := inDerive State.reset [request17 key17] (some (.search 17));
        s.settled = true ∧ s.deriveGrant = some (.search 17) ∧ s.request 17 = some (request17 key17) ∧
          ∀ i, (s.cell i).entry = none) := by
  refine ⟨⟨by decide +kernel, by decide +kernel, rfl, ?_⟩, by decide +kernel, by decide +kernel, by decide +kernel,
    fun i => ?_⟩
  · exact State.nearest_ne_nil (i := 5) (twilight_candidates 5 (by decide))
  show (State.reset.cell i).entry = none
  rw [reset_cell]; rfl

/-- A state with a derivation queue and blends that run and wait. -/
def inBlend (running waiting : List Blend) : State :=
  let s := inDerive State.reset [derivation .blending (some []) none] none
  { s with derive := { s.derive with blends := running, waitingBlends := waiting } }

/-- A blend for a request. -/
def blendOf (n : Option Nat) : Blend := { request := n, inputs := [{ grade := red 4300, distance := 80 }] }

theorem witness_BlendsStartAndComplete :
    (inBlend (List.replicate 3 (blendOf none)) [blendOf (some 5)]).derive.blends.length < 4 ∧
      (inBlend [blendOf none] []).settled = true ∧ (blendOf none).request = none ∧
      (inBlend [blendOf (some 5)] []).settled = true ∧ (blendOf (some 5)).request = some 5 ∧
      (inBlend [blendOf (some 5)] []).derive.queue = [] ++ derivation .blending (some []) none :: [] := by
  decide +kernel

theorem witness_BlendIsAWeightedMean : Grade.unity.holds ∧ 8190 ≤ 8190 ∧ [blendOf none] ≠ [] := by
  unfold Grade.holds coefficientHolds; decide

/-- A READY request whose parent in slot 1 has gone. -/
def staleRequest (rerun : Bool) : Derivation :=
  { derivation .ready (some [{ slot := 1, generation := 2, distance := 70 }]) (some (red 4439)) with
    rerunUsed := rerun }

theorem witness_InstallWithStaleParent :
    ∀ rerun : Bool,
      let s := inDerive State.reset [staleRequest rerun] (some (.install 5))
      s.settled = true ∧ s.deriveGrant = some (.install 5) ∧ s.derive.queue = staleRequest rerun :: [] ∧
        (staleRequest rerun).result = some (red 4439) ∧
        (∃ p ∈ (staleRequest rerun).parents.getD [], (s.cell p.slot).state ≠ .live) := by decide +kernel

/-- A READY request whose key slot 1 of the amended dawn covers. -/
def coveredRequest : Derivation := { derivation .ready (some parents5) (some (red 4439)) with key := reeds }

theorem witness_InstallFindsKeyCovered :
    let s := inDerive amendedDawn [coveredRequest] (some (.install 5))
    s.settled = true ∧ s.deriveGrant = some (.install 5) ∧ s.request 5 = some coveredRequest ∧
      (∀ p ∈ coveredRequest.parents.getD [], (s.cell p.slot).state = .live ∧
        (s.cell p.slot).generation = p.generation) ∧
      (s.cell 1).holdsLive (authored reeds (.illuminant .live (light 4460 1))) (light 4460 1) ∧
      s.frameProfile.admits coveredRequest.key reeds = true := by
  unfold Cell.holdsLive; decide +kernel

/-- A learned, unpinned, DORMANT entry. -/
def faded : Entry :=
  { authored reeds (.illuminant .live { light 4300 1 with vigour := .dormant }) with origin := .learned [] 7 }

/-- A part with no EMPTY slot. -/
def crowded : State :=
  inDerive { State.reset with table := Vector.replicate 512 (full 1 faded) }
    [derivation .ready (some []) (some (red 4439))] (some (.install 5))

theorem witness_InstallFindsRoomOrEndsFull :
    (let s := inDerive State.reset [derivation .ready (some []) (some (red 4439))] (some (.install 5));
      s.settled = true ∧ s.deriveGrant = some (.install 5) ∧
        s.request 5 = some (derivation .ready (some []) (some (red 4439))) ∧ s.derive.reserve < s.countOf .empty ∧
        s.lastFree = some 511) ∧
      (∀ i, (State.reset.cell i).entry = none) ∧
      crowded.settled = true ∧ crowded.deriveGrant = some (.install 5) ∧
      crowded.countOf .empty ≤ crowded.derive.reserve ∧ crowded.derive.evictionPermitted = true ∧
      crowded.evictionChoice = some 511 ∧
      ({ crowded with table := crowded.table.set 511 { generation := 2, entry := none } } : State).lastFree =
        some 511 ∧
      (∀ i, (crowded.cell i).entry = some faded) ∧
      crowded.frameProfile.admits (derivation .ready (some []) none).key faded.key = false := by
  refine ⟨by decide +kernel, fun i => by rw [reset_cell]; rfl, by decide +kernel, by decide +kernel,
    by decide +kernel, by decide +kernel, by decide +kernel, by decide +kernel, fun i => ?_, by decide +kernel⟩
  simp [crowded, inDerive, State.cell, full]

theorem witness_EvictionChoosesHighestDormantFirst :
    (∃ e x parents n, (crowded.cell 511).holdsLive e x ∧ e.origin = .learned parents n ∧ e.pin = false ∧
        x.vigour = .dormant) ∧
      (∀ c : Chan, (crowded.channel c).winner ≠ some 511) ∧
      ∀ q ∈ crowded.derive.queue, ∀ p ∈ q.parents.getD [], p.slot ≠ 511 := by
  refine ⟨⟨faded, _, _, _, ⟨by decide +kernel, rfl⟩, rfl, rfl, rfl⟩, by decide +kernel, by decide +kernel⟩

theorem witness_SweepStartsWithASnapshot :
    let s : State := { dawn with aging := { dawn.aging with pendingTicks := #v[1, 0, 0, 255] } }
    s.aging.sweep = none ∧ ∃ k : ClassNo, s.aging.pendingTicks[k] ≠ 0 := by decide +kernel

/-- A sweep whose block 0 holds a class 2 entry that reaches its retire_at, and whose snapshot gives class 0 none. -/
def retiring (pin : Bool) : State :=
  let e := { authored reeds (.illuminant .live { light 4300 2 with idleTicks := 47 }) with pin := pin }
  let s := withCells [(3, full 1 e), (4, full 1 (authored reeds (.illuminant .live (light 4300 0))))]
  after .sweepStart { s with aging := { s.aging with pendingTicks := #v[0, 0, 1, 0] } }

theorem witness_SweepStepAgesItsBlock :
    sweeping.settled = true ∧ sweeping.agingGrant = some 0 ∧ sweeping.aging.sweep.isSome = true ∧
      (sweeping.cell 64).state ≠ .live ∧ (64 : Slot).val / 64 ≠ (0 : Block).val ∧
      (∀ pin : Bool, (retiring pin).settled = true ∧ (retiring pin).agingGrant = some 0 ∧
        ((retiring pin).cell 3).state = .live ∧ ((retiring pin).cell 4).state = .live ∧
        (∀ c : Chan, ((retiring pin).channel c).winner ≠ some 3)) ∧
      (retiring false).aging.sweep.map (fun w => (w.snapshot[(2 : ClassNo)], w.snapshot[(0 : ClassNo)].ticks)) =
        some ({ ticks := 1, idleAt := 4, dormantAt := 12, retireAt := 48 }, 0) := by decide +kernel

/-- The body of an illuminant, as a PLACE or an AMEND carries it. -/
def lightBody : BodyParts :=
  { noBody with
    gains := some { gR := 4600, gG := 4096, gB := 4096 }
    matrix := some { m11 := 4096, m12 := 0, m13 := 0, m21 := 0, m22 := 4096, m23 := 0, m31 := 0, m32 := 0, m33 := 4096 } }

/-- The body of an anchor, as a PLACE or an AMEND carries it. -/
def anchorBody : BodyParts :=
  { noBody with
    reference := some { r := 21400, g := 24000, b := 65535 }, limits := some { tolerance := 4095, streakLimit := 15 } }

/-- A PLACE of a state with a class and a body. -/
def placing (state : Nat) (cls : Option Nat) (b : BodyParts) : PlaceRequest :=
  { designator := .nextFree, flags := 7, state := state, key := reeds, cls := cls, body := b }

theorem witness_PlaceIsTaken :
    State.reset.listens = true ∧ placeValuesOk (placing 1 (some 3) lightBody) = true ∧
      placeValuesOk (placing 2 (some 0) lightBody) = true ∧ placeValuesOk (placing 3 none anchorBody) = true ∧
      placeValuesOk (placing 4 none anchorBody) = false ∧ placeValuesOk (placing 3 none lightBody) = true ∧
      placeValuesOk (placing 1 none lightBody) = true ∧
      { noBody with
          gains := some { gR := 4600, gG := 4096, gB := 4096 }
          matrix := some { m11 := 4096, m12 := 0, m13 := 0, m21 := 0, m22 := 4096, m23 := 0, m31 := 0, m32 := 0,
                           m33 := 4096 } } = lightBody := by decide +kernel

/-- An AMEND with an expected generation and a body. -/
def amending (expected : Option Nat) (b : BodyParts) : AmendRequest :=
  { designator := .absolute 1, expected := expected, key := none, cls := none, body := b }

theorem witness_AmendIsTaken :
    State.reset.listens = true ∧ amendValuesOk (amending (some 65535) lightBody) = true ∧
      amendCarries (amending none lightBody) = true ∧ amendCarries (amending none noBody) = false ∧
      amendValuesOk (amending (some 65536) lightBody) = false ∧
      amendValuesOk (amending none { lightBody with matrix := none }) = true ∧
      amendValuesOk (amending none anchorBody) = true := by decide +kernel

/-- The SERVICE context after a SEEK, with the cursor at a slot. -/
def sought (cursor : Slot) : State :=
  { State.reset with
    matching :=
      { State.reset.matching with
        service :=
          { State.reset.matching.service with
            cursor := cursor, lastMatch := some 511, lastSeekKey := some reeds, matchCount := 1 } } }

theorem witness_RequestsAreChecked :
    State.reset.listens = true ∧ (sought 511).listens = true ∧
      (resolveDesignator State.reset (.absolute 512)).toOption = none ∧
      (resolveDesignator State.reset .lastMatch).toOption = none ∧
      (resolveDesignator (sought 511) .lastMatch).toOption.isSome = true ∧
      ((511 : Slot).val : Int) = (sought 0).matching.service.cursor.val + 511 ∧
      511 < (sought 511).matching.service.cursor.val + (1 : Int) ∧ keyOk reeds = true ∧
      keyOk { reeds with tag := 16 } = false ∧ State.reset.matching.service.lastSeekKey = none ∧
      (sought 0).matching.service.lastMatch = some 511 ∧ State.reset.depth = 0 ∧
      ({ State.reset with depth := 3 } : State).listens = true := by decide +kernel

theorem witness_MessagesAreDroppedWhileBusy :
    (inService State.reset .restart).settled = true ∧ (inService State.reset .restart).lines.ready = true ∧
      (inService State.reset .restart).link.state = .working .operation ∧
      (State.reset.answers (.done .nothing)).settled = true ∧
      (State.reset.answers (.done .nothing)).link.state = .replyReady (.done .nothing) ∧
      carriesMessage .readStatus = true ∧ carriesMessage (.malformed 0x99) = true := by decide +kernel

/-- The slot of a test's request. -/
def at' (i : Slot) : Target := { ref := .at i, viaCursor := false }

/-- What a PLACE of the reeds carries, with its flags. -/
def placed (unique overwrite : Bool) : NewEntry :=
  { key := reeds, pin := false, unique := unique, overwrite := overwrite
    body := .illuminant .live (red 4480) 1 }

/-- A part with no EMPTY slot, at a grant to SERVICE. -/
def crowdedService (op : ServiceOp) : State :=
  inService { State.reset with table := Vector.replicate 512 (full 1 faded) } op

/-- No free end in a part without an EMPTY slot. -/
theorem crowded_nextFree (op : ServiceOp) : (crowdedService op).nextFree = none := by
  simp [State.nextFree, crowdedService, inService, State.cell, full, Cell.isEmpty]

theorem witness_PlaceCreatesItsEntry :
    (∀ unique overwrite : Bool, ∀ i ∈ [(1 : Slot), 3],
        (inService dawn (.place (at' i) (placed unique overwrite))).grantsService
          (.place (at' i) (placed unique overwrite))) ∧
      (dawn.cell 1).entry ≠ none ∧ (dawn.cell 3).entry = none ∧
      (∃ j e, (dawn.cell j).entry = some e ∧ e.key = reeds) ∧ (dawn.cell 0).entry.map (fun e => e.key) ≠ some reeds ∧
      (let t : Target := { ref := .nextFree, viaCursor := false };
        (crowdedService (.place t (placed true true))).grantsService (.place t (placed true true)) ∧
          t.slot (crowdedService (.place t (placed true true))) = none) := by
  refine ⟨?_, by decide +kernel, by decide +kernel,
    ⟨1, authored reeds (.illuminant .live (light 4480 1)), by decide +kernel, rfl⟩, by decide +kernel, ?_,
    crowded_nextFree _⟩ <;> · unfold State.grantsService; decide +kernel

/-- A change of the reeds. -/
def change (expected : Option Nat) (supplied : Option Supplied) : Change :=
  { expected := expected, key := none, grade := some (red 4460), supplied := supplied, cls := none }

theorem witness_AmendChangesItsEntry :
    (∀ c ∈ [change none none, change (some 1) none, change (some 2) none, change none (some (post 0).supplied)],
        ∀ i ∈ [(1 : Slot), 3],
          (inService dawn (.amend (at' i) c)).grantsService (.amend (at' i) c)) ∧
      (dawn.cell 3).entry = none ∧ (dawn.cell 1).generation = 1 ∧
      (dawn.cell 1).entry = some (authored reeds (.illuminant .live (light 4480 1))) ∧
      ¬(authored reeds (.illuminant .live (light 4480 1))).nests 3 ∧
      Entry.nests 2
        { authored reeds (.illuminant .live (light 4460 1)) with
          shadow := some { depth := 1, key := reeds, pin := false, body := .illuminant .live (red 4480) 1 } } := by
  refine ⟨?_, by decide +kernel, by decide +kernel, by decide +kernel, ?_, ⟨_, rfl, by decide⟩⟩
  · unfold State.grantsService; decide +kernel
  · rintro ⟨sh, h, -⟩; cases h

theorem witness_SetStateMovesItsEntry :
    (∀ st ∈ [LightState.live, .held], ∀ i ∈ [(1 : Slot), 3, 60],
        (inService dawn (.setState (at' i) st)).grantsService (.setState (at' i) st)) ∧
      (dawn.cell 3).entry = none ∧ (dawn.cell 60).state = .anchor ∧ (dawn.cell 1).state = .live := by
  unfold State.grantsService; decide +kernel

theorem witness_PinAndUnpinWriteThePin :
    (∀ i ∈ [(1 : Slot), 3], (inService dawn (.pin (at' i))).grantsService (.pin (at' i)) ∧
        (inService dawn (.unpin (at' i))).grantsService (.unpin (at' i))) ∧
      (dawn.cell 1).entry ≠ none ∧ (dawn.cell 3).entry = none := by
  unfold State.grantsService; decide +kernel

theorem witness_ClearRetireAndReadAtTheirGrants :
    (∀ op ∈ [ServiceOp.clearCounts (at' 1), .retire (at' 3), .retire (at' 1), .readEntry (at' 511)],
        (inService dawn op).grantsService op) ∧
      (dawn.cell 1).entry ≠ none ∧ (dawn.cell 3).entry = none := by
  unfold State.grantsService; decide +kernel

theorem witness_SeekFindsLowestAdmitted :
    (inService dawn (.seek reeds)).grantsService (.seek reeds) ∧
      (inService dawn (.seekNext reeds 512)).grantsService (.seekNext reeds 512) ∧
      (dawn.cell 1).served dawn.matching.service.filter dawn.serviceProfile reeds = true ∧
      (dawn.cell 60).served dawn.matching.service.filter dawn.serviceProfile reeds = false := by
  unfold State.grantsService; decide +kernel

theorem witness_SettingsAreWrittenOrRefused :
    State.reset.listens = true ∧ profileFieldsOk { noProfile with doubtLimit := some 0 } = false ∧
      profileFieldsOk { noProfile with doubtLimit := some 7, tagMode := some 1 } = true ∧
      carriedOk (within 0 64) (some 65) = false ∧ carriedOk (within 0 64) (some 64) = true ∧
      classFieldsOk { noClass with prescale := some 4096 } = true ∧
      classFieldsOk { noClass with prescale := some 0 } = false ∧
      ClassDescriptor.sound { prescale := 30, idleAt := 20, dormantAt := 20, retireAt := 0 } = true ∧
      ClassDescriptor.sound { prescale := 30, idleAt := 20, dormantAt := 120, retireAt := 119 } = false := by
  decide +kernel

theorem witness_ReportsAndCauses : State.reset.listens = true ∧ 8191 < 8192 ∧ 8192 ≤ 8192 := by decide +kernel

theorem witness_OpenScopeRaisesTheDepth :
    (∀ d ∈ [2, 3], ({ State.reset with depth := d } : State).listens = true) ∧ 2 < 3 ∧ 3 ≤ 3 := by decide +kernel

theorem witness_DropUndoesTheScope :
    dropping.grantsService (.drop 1) ∧ (dropping.cell 0).entry.map (fun e => (e.stamp, e.shadow)) = some (0, none) ∧
      (dropping.cell 1).entry.map (fun e => (e.stamp, e.shadow.map fun sh => sh.depth)) = some (0, some 1) ∧
      (dropping.cell 511).entry.map (fun e => e.stamp) = some 1 ∧ (dropping.cell 3).entry = none ∧
      dropping.derive.queue.map (fun q => q.issueDepth) = [1] := by
  unfold State.grantsService; decide +kernel

theorem witness_KeepFoldsTheScope :
    (inService { dropping with depth := 1 } (.keep 1)).grantsService (.keep 1) := by
  unfold State.grantsService; decide +kernel

/-- The reeds with the shadow of an earlier placement at depth 1. -/
def shadowed : Entry :=
  { authored reeds (.illuminant .live (light 4480 1)) with
    shadow := some { depth := 1, key := reeds, pin := false, body := .illuminant .live (red 4400) 1 } }

/-- A part at depth 1 with an entry of each kind that the RESTART walk tells apart. -/
def inTake : State :=
  State.setCell
    (State.setCell
      (State.setCell { State.reset with depth := 1 } 0 (full 1 (authored reeds (.illuminant .live (light 4480 1))))) 1
      (full 1 shadowed))
    2 (full 1 { authored reeds (.illuminant .live (light 4480 1)) with stamp := 1 })

/-- That part with the walk waiting. -/
def restarting : State := inService inTake .restart

/-- Its slots. -/
theorem restarting_cell (i : Slot) :
    restarting.cell i = Cell.blank ∨ ∃ e, restarting.cell i = full 1 e ∧ e.scoped 1 := by
  show inTake.cell i = _ ∨ ∃ e, inTake.cell i = _ ∧ _
  unfold inTake
  rw [State.cell_setCell, State.cell_setCell, State.cell_setCell]
  split
  · exact .inr ⟨_, rfl, by unfold Entry.scoped; simp [authored]⟩
  · split
    · exact .inr ⟨_, rfl, by unfold Entry.scoped; simp [authored, shadowed]⟩
    · split
      · exact .inr ⟨_, rfl, by unfold Entry.scoped; simp [authored]⟩
      · exact .inl (reset_cell i)

theorem witness_RestartAndClearTableWalks :
    (inService dropping .restart).grantsService .restart ∧
      (inService dropping .clearTable).grantsService .clearTable ∧
      restarting.grantsService .restart ∧ restarting.scopesHold ∧
      (restarting.cell 0).entry.map (fun e => (e.stamp, e.shadow.isSome)) = some (0, false) ∧
      (restarting.cell 1).entry.map (fun e => (e.stamp, e.shadow.isSome)) = some (0, true) ∧
      (restarting.cell 2).entry.map (fun e => (e.stamp, e.shadow.isSome)) = some (1, false) := by
  refine ⟨by unfold State.grantsService; decide +kernel, by unfold State.grantsService; decide +kernel,
    by unfold State.grantsService; decide +kernel, ⟨?_, by decide, ?_, fun i e h => ?_, ?_⟩, by decide +kernel,
    by decide +kernel, by decide +kernel⟩
  · unfold State.linkAgrees; decide +kernel
  · intro op h; cases h; trivial
  · rcases restarting_cell i with hc | ⟨e', hc, he⟩ <;> rw [hc] at h
    · cases h
    · cases h; exact he
  · intro q h; cases h

theorem witness_PeriodsThatCarryNoRequest :
    State.reset.settled = true ∧ State.reset.lines.ready = true ∧ State.reset.link.state = .idle ∧
      (inService State.reset .restart).settled = true ∧ (State.reset.answers (.done .nothing)).settled = true ∧
      2 < (Reply.done .nothing).bytes.length ∧ (Reply.done .nothing).bytes.length = 3 := by decide +kernel

theorem witness_ReplyBytesFollowTheirLayout :
    ∃ (le : Nat → Nat → List Byte) (opt : Option (List Byte) → List Byte) (list : List (List Byte) → List Byte)
      (state : SlotState → Nat),
      (∀ n, le 0 n = []) ∧ (∀ k n, le (k + 1) n = BitVec.ofNat 8 n :: le k (n / 256)) ∧ opt none = [0x00] ∧
        (∀ l, opt (some l) = 0x01 :: l) ∧ (∀ l, list l = le 1 l.length ++ l.flatten) ∧
        (state .empty = 0 ∧ state .live = 1 ∧ state .held = 2 ∧ state .anchor = 3) :=
  ⟨leBytes, optionalBytes id, fun l => leBytes 1 l.length ++ l.flatten, SlotState.code, fun _ => rfl, fun _ _ => rfl,
    rfl, fun _ => rfl, fun _ => rfl, rfl, rfl, rfl, rfl⟩

/-- R180: a refusal, and the length of a reply of four bytes. -/
theorem test_reply_bytes :
    (Reply.refused .noMatch).bytes = [0x02, 0x01, 0x00, 0x0C] ∧
      (Reply.done (.slotGeneration 511 258)).bytes = [0x01, 0x04, 0x00, 0xFF, 0x01, 0x02, 0x01] := by decide +kernel

/-- What a step answers, from a state. -/
def stepped (s : State) : State :=
  match step s with
  | .next t => t
  | _ => State.reset

/-- R168: filler is shifted out against the bytes clocked after a whole message or a MALFORMED decision, and none is where
none is clocked. -/
theorem test_filler_after_message :
    (stepped (State.reset.hostSends [0x50, 0xAA, 0xBB])).link =
        { state := .working .operation, out := [0x81, 0xFF, 0xFF] } ∧
      (stepped (State.reset.hostSends [0x50, 0xAA, 0xBB])).trailing = [] ∧
      (stepped (State.reset.hostSends [0x14, 0x86, 0x00])).link =
        { state := .replyReady (.refused .malformed), out := [0x81, 0xFF] } ∧
      (stepped (State.reset.hostSends [0x51])).link.out = [0x81] := by decide +kernel

/-- R165, R86: the status byte of the period after a channel's part ended names the completion of the SET CHANNEL that
waited for it. R176: a period begun before the part is ready is ignored. -/
theorem test_host_period :
    handedWhileWaiting.hostPeriod [0, 0, 0, 0] = .fetch .replyReady 0 ∧ asleep.hostPeriod [0x50] = .selectAborted ∧
      State.reset.hostPeriod [0x50] = .restart := by decide +kernel

theorem witness_MessagesAndWordsDecodeToThemselves :
    (Instr.retire (.cursorOffset (-511))).wf = true ∧ isRequest (.retire (.cursorOffset (-511))) = true ∧
      (Instr.openWord 0xFFFFFFFF 15).wf = true ∧ isReadingWord (.openWord 0xFFFFFFFF 15) = true := by decide +kernel

/-- The power-on part with an OPEN SCOPE in its queue. -/
def scopeWaiting : State := { State.reset with pending := [.openScope] }

/-- Its step answers a next state, one scope deeper. -/
theorem scopeWaiting_step :
    step scopeWaiting = .next (after .openScope State.reset) ∧ (after .openScope State.reset).depth = 1 :=
  ⟨rfl, by decide +kernel⟩

/-- Its slots are EMPTY. -/
theorem scopeWaiting_cell (i : Slot) : scopeWaiting.cell i = Cell.blank := reset_cell i

theorem witness_StepKeepsWinnersLive : scopeWaiting.winnersLive := by
  have h : ∀ c : Chan, (scopeWaiting.channel c).winner = none := by decide +kernel
  intro c i hi
  simp [h c] at hi

theorem witness_StepKeepsScopes : scopeWaiting.scopesHold := by
  refine ⟨by unfold State.linkAgrees; decide +kernel, by decide, fun op h => ?_, fun i e h => ?_, fun q h => ?_⟩
  · cases h
  · rw [scopeWaiting_cell] at h; cases h
  · cases h

theorem witness_StepKeepsQueuesAndSweep :
    scopeWaiting.derivationsHold ∧ scopeWaiting.sweepHolds ∧ scopeWaiting.boundsHold ∧
      (inPath (.opened opened) .free (some 100) []).openFrameHolds := by
  have h : ∀ c : Chan, (scopeWaiting.channel c).pendingDerivation = none := by decide +kernel
  refine ⟨⟨List.nodup_nil, List.nodup_nil, fun q h => (by cases h), by decide, fun c n hn => ?_⟩, rfl, ?_, fun f hf => ?_⟩
  · simp [h c] at hn
  · unfold State.boundsHold ClassDescriptor.holds; decide +kernel
  · cases hf; decide +kernel

theorem witness_StepKeepsGradesInRange : scopeWaiting.gradesHold := by
  refine ⟨fun i e h => ?_, ?_, fun q h => ?_, fun op h => ?_, fun r h => ?_⟩
  · rw [scopeWaiting_cell] at h; cases h
  · unfold Grade.holds coefficientHolds; decide +kernel
  · cases h
  · cases h
  · cases h

theorem witness_FreeEndsCountsAndGenerations :
    dawn.nextFree = some 3 ∧ dawn.lastFree = some 511 ∧ (∀ op, (crowdedService op).nextFree = none) ∧
      65534 < 65535 := ⟨by decide +kernel, by decide +kernel, crowded_nextFree, by decide⟩

end Sys2Proof.Tests
end

section
/-!
SUPPORT. Invariants that judge every entry, channel, request and record by itself: the rules of such an invariant, and
that every command keeps them, proved once for all rules. The scope stack and the grades' ranges are two of them.
-/
namespace Sys2Proof.Machine

-- One theorem after another: many at once would each hold a stack of their own.
set_option Elab.async false

/-! ### What the operations leave of a channel's two grades -/

/-- The grade of a body, if it has one. -/
def Body.grade? : Body → Option Grade
  | .illuminant _ x => some x.grade
  | .anchor _ => none

/-- Two records of a channel with the same target and the same delivered grade. -/
def Channel.SameGrades (ch' ch : Channel) : Prop := ch'.target = ch.target ∧ ch'.delivered = ch.delivered

theorem Channel.SameGrades.trans {a b c : Channel} (h : a.SameGrades b) (k : b.SameGrades c) : a.SameGrades c :=
  ⟨h.1.trans k.1, h.2.trans k.2⟩

theorem Channel.sameGrades_beginFrame (n : Nat) (ch : Channel) : (ch.beginFrame n).SameGrades ch := by
  have roll : (ch.rollWindow n).SameGrades ch := by
    unfold Channel.rollWindow
    split
    · exact ⟨rfl, rfl⟩
    · split <;> exact ⟨rfl, rfl⟩
  refine Channel.SameGrades.trans ?_ roll
  unfold Channel.beginFrame Channel.endLock
  split <;> exact ⟨rfl, rfl⟩

theorem Channel.sameGrades_takeWinner (i : Slot) (ch : Channel) : (ch.takeWinner i).SameGrades ch := by
  unfold Channel.takeWinner
  split
  · split <;> exact ⟨rfl, rfl⟩
  · exact ⟨rfl, rfl⟩

theorem Channel.sameGrades_loseWinner (gone : Slot → Bool) (ch : Channel) : (ch.loseWinner gone).SameGrades ch := by
  unfold Channel.loseWinner
  split
  · split <;> exact ⟨rfl, rfl⟩
  · exact ⟨rfl, rfl⟩

theorem Channel.sameGrades_loseDerivation (gone : List Nat) (ch : Channel) :
    (ch.loseDerivation gone).SameGrades ch := by
  unfold Channel.loseDerivation
  split
  · split <;> exact ⟨rfl, rfl⟩
  · exact ⟨rfl, rfl⟩

theorem Channel.sameGrades_write (f : ChannelFields) (ch : Channel) : (ch.write f).SameGrades ch := by
  unfold Channel.write
  simp only
  split <;> exact ⟨rfl, rfl⟩

/-! ### Cells by kind -/

/-- A slot is LIVE when its entry has a LIVE body. -/
theorem Cell.live_eq_some {c : Cell} {e : Entry} {x : Illuminant} (h : c.live = some (e, x)) : c.holdsLive e x := by
  unfold Cell.live at h
  split at h
  · next e' he =>
    split at h
    · next hb => cases h; exact ⟨he, hb⟩
    · cases h
  · cases h

/-- A slot is an ANCHOR when its entry has an anchor's body. -/
theorem Cell.anchor_eq_some {c : Cell} {e : Entry} {a : AnchorBody} (h : c.anchor = some (e, a)) :
    c.entry = some e ∧ e.body = .anchor a := by
  unfold Cell.anchor at h
  split at h
  · next e' he =>
    split at h
    · next hb => cases h; exact ⟨he, hb⟩
    · cases h
  · cases h

/-! ### Rules for every item by itself -/

/-- What an invariant asks of the scope depth and, at that depth, of every entry, channel, request and record by itself
and of SERVICE's waiting operation, and, where it is `linked`, of the link; with the reasons why the part's own writes
keep it. -/
structure Rules where
  depth : Nat → Prop
  linked : Prop
  op : Nat → ServiceOp → Prop
  entry : Nat → Entry → Prop
  channel : Channel → Prop
  request : Nat → Derivation → Prop
  record : GradeRecord → Prop
  /-- An entry is judged by its stamp, its shadow and its grade alone. -/
  entry_working : ∀ {d : Nat} {e e' : Entry}, entry d e →
    e'.stamp = e.stamp → e'.shadow = e.shadow → e'.body.grade? = e.body.grade? → entry d e'
  /-- A shadow may be taken of an entry whose stamp is below the depth (R143). -/
  entry_shadowed : ∀ {d : Nat} {e : Entry}, e.stamp < d → entry d e →
    entry d { e with shadow := some (e.shadowAt d) }
  /-- A request's result may be installed (R105). -/
  entry_learned : ∀ {d : Nat} {q : Derivation} {g : Grade}, request d q → q.result = some g → entry d (q.entry g)
  /-- A channel is judged by its target and its delivered grade alone. -/
  channel_working : ∀ {ch ch' : Channel}, channel ch → ch'.SameGrades ch → channel ch'
  /-- A channel may take its glide steps (R76). -/
  channel_glided : ∀ {ch : Channel} (n : Nat), channel ch → channel (ch.advanceGlide n)
  /-- A channel may take an entry's grade as its target (R74, R75). -/
  channel_retargeted : ∀ {ch : Channel} {d : Nat} {e : Entry} {st : LightState} {x : Illuminant} (n : Nat),
    entry d e → e.body = .illuminant st x → channel ch → channel (ch.retarget n x.grade)
  /-- A channel's record may be handed over (R81). -/
  record_formed : ∀ {ch : Channel} (n : Nat) (c : Chan) (o : ChannelOutcome), channel ch → record (ch.record n c o)
  /-- A request may be issued at the depth (R94). -/
  request_issued : ∀ {d : Nat} {q : Derivation}, q.issueDepth = d → q.result = none → request d q
  /-- A request is judged by its issue depth and its result alone, and a result may be dropped or come from a blend. -/
  request_working : ∀ {d : Nat} {q q' : Derivation}, request d q → q'.issueDepth = q.issueDepth →
    (∀ g, q'.result = some g → q.result = some g ∨ ∃ l, g = blendGrade l) → request d q'

/-- A state whose every item obeys the rules. -/
structure State.Obeys (s : State) (R : Rules) : Prop where
  depth : R.depth s.depth
  link : R.linked → s.linkAgrees
  ops : ∀ op, s.arbiter.service = some op → R.op s.depth op
  entries : ∀ i e, (s.cell i).entry = some e → R.entry s.depth e
  channels : ∀ c, R.channel (s.channel c)
  requests : ∀ q ∈ s.derive.queue, R.request s.depth q
  records : ∀ r ∈ s.port.queue, R.record r

namespace State.Obeys

variable {s t : State} {R : Rules}

/-! ### The single writes -/

/-- An update that leaves every field the rules speak of. -/
theorem congr (h : s.Obeys R) (depth : t.depth = s.depth := by rfl)
    (service : t.arbiter.service = s.arbiter.service := by rfl) (link : t.link.state = s.link.state := by rfl)
    (table : t.table = s.table := by rfl) (channels : t.channels = s.channels := by rfl)
    (queue : t.derive.queue = s.derive.queue := by rfl) (records : t.port.queue = s.port.queue := by rfl) :
    t.Obeys R where
  depth := depth ▸ h.depth
  link k := by unfold State.linkAgrees; rw [service, link]; exact h.link k
  ops op k := depth ▸ h.ops op (service ▸ k)
  entries i e k := depth ▸ h.entries i e (State.cell_congr table i ▸ k)
  channels c := State.channel_congr channels c ▸ h.channels c
  requests q k := depth ▸ h.requests q (queue ▸ k)
  records r k := h.records r (records ▸ k)

/-- Every slot rewritten to entries that obey. -/
theorem mapCells (h : s.Obeys R) {f : Slot → Cell → Cell}
    (hf : ∀ i e, (f i (s.cell i)).entry = some e → R.entry s.depth e) : (s.mapCells f).Obeys R :=
  { h with entries := fun i e k => hf i e (by rwa [State.cell_mapCells] at k) }

/-- One slot written with an entry that obeys, or with none. -/
theorem setCell (h : s.Obeys R) (i : Slot) {c : Cell} (hc : ∀ e, c.entry = some e → R.entry s.depth e) :
    (s.setCell i c).Obeys R where
  __ := h
  entries j e k := by
    rw [State.cell_setCell] at k
    split at k
    · exact hc e k
    · exact h.entries j e k

/-- One slot written with an entry that obeys. -/
theorem setEntry (h : s.Obeys R) (i : Slot) {c : Cell} {e : Entry} (hc : c.entry = some e) (he : R.entry s.depth e) :
    (s.setCell i c).Obeys R :=
  h.setCell i fun _ k => Option.some.inj (hc.symm.trans k) ▸ he

/-- One channel written. -/
theorem setChannel (h : s.Obeys R) (c : Chan) {ch : Channel} (hc : R.channel ch) : (s.setChannel c ch).Obeys R where
  __ := h
  channels d := by
    rw [State.channel_setChannel]
    split
    · exact hc
    · exact h.channels d

/-- Every channel rewritten with its grades as they stand. -/
theorem mapChannels (h : s.Obeys R) {f : Channel → Channel} (hf : ∀ ch, (f ch).SameGrades ch) :
    (s.mapChannels f).Obeys R where
  __ := h
  channels c := by
    rw [State.channel_mapChannels]
    exact R.channel_working (h.channels c) (hf _)

/-- Winners cleared (R79). -/
theorem clearWinners (h : s.Obeys R) (gone : Slot → Bool) : (s.clearWinners gone).Obeys R :=
  h.mapChannels (Channel.sameGrades_loseWinner gone)

/-- An entry retired (R20). -/
theorem retire (h : s.Obeys R) (i : Slot) : (s.retire i).Obeys R :=
  (h.setCell i fun _ k => by cases k).clearWinners _

/-- The derivation unit written with requests that obey. -/
theorem setDerive (h : s.Obeys R) {d : DerivationUnit} (hd : ∀ q ∈ d.queue, R.request s.depth q) :
    (s.setDerive d).Obeys R :=
  { h with requests := hd }

/-- One request of the queue rewritten. -/
theorem updateRequest (h : s.Obeys R) (n : Nat) {f : Derivation → Derivation}
    (hf : ∀ q, R.request s.depth q → R.request s.depth (f q)) : (s.updateRequest n f).Obeys R := by
  refine h.setDerive fun q k => ?_
  obtain ⟨p, hp, rfl⟩ := List.mem_map.mp k
  split
  · exact hf p (h.requests p hp)
  · exact h.requests p hp

/-! ### The Derivation Unit -/

/-- The unit's choice (R95). -/
theorem chooseDerive (h : s.Obeys R) : s.chooseDerive.Obeys R := by
  rcases s.chooseDerive_cases with e | ⟨-, ⟨q, l, -, -, e⟩ | ⟨w, -, -, e⟩⟩ <;> rw [e]
  · exact h
  · exact h.congr
  · exact (h.updateRequest w.number fun q hq => R.request_working (q' := { q with stage := .searching }) hq rfl
      fun _ => .inl).congr

/-- Requests leave the queue (R106). -/
theorem leaveQueue (h : s.Obeys R) (p : Derivation → Bool) : (s.leaveQueue p).Obeys R where
  __ := h
  channels c := by
    rw [State.channel_leaveQueue]
    exact R.channel_working (h.channels c) (Channel.sameGrades_loseDerivation _ _)
  requests q k := h.requests q (List.mem_of_mem_filter k)

/-- A request ends (R106, R107). -/
theorem endRequest (h : s.Obeys R) (q : Derivation) (e : Ending) : (s.endRequest q e).Obeys R :=
  let h' := h.leaveQueue fun r => r.number == q.number
  h'.setDerive h'.requests

/-- The queue emptied within a walk (R111). -/
theorem emptyQueue (h : s.Obeys R) : s.emptyQueue.Obeys R := (h.leaveQueue fun _ => true).congr

/-- A miss considered for learning (R92 to R94). -/
theorem considerMiss (h : s.Obeys R) (c : Chan) (r : ChannelReading) (n : Nat) : (s.considerMiss c r n).Obeys R := by
  have pend (u : State) (hu : u.Obeys R) (m : Nat) : (u.setPendingDerivation c m).Obeys R :=
    hu.setChannel c (R.channel_working (hu.channels c) ⟨rfl, rfl⟩)
  rcases s.considerMiss_cases c r n with e | ⟨q, -, e⟩ | e | ⟨-, e⟩ <;> rw [e]
  · exact h
  · exact pend s h q.number
  · exact h.congr
  · refine (pend _ (h.setDerive fun q k => ?_) _).chooseDerive
    rcases List.mem_append.mp k with k | k
    · exact h.requests q k
    · rw [List.mem_singleton.mp k]
      exact R.request_issued rfl rfl

/-- A SEARCH performed (R96, R97). -/
theorem searchFor (h : s.Obeys R) (q : Derivation) : (s.searchFor q).Obeys R := by
  refine chooseDerive ?_
  split
  · exact (h.endRequest q .noParents).congr
  · exact (h.updateRequest q.number fun r hr => R.request_working
      (q' := { r with stage := .blending, parents := some (s.parentsOf q.key (s.nearest q.key)) }) hr rfl
      fun _ => .inl).congr

/-- A blend completes (R98, R99). -/
theorem completeBlend (h : s.Obeys R) : s.completeBlend.Obeys R := by
  unfold State.completeBlend
  split
  · exact h
  · next b l _ =>
    have started : (s.setDerive { s.derive with blends := l }).Obeys R := h.congr
    simp only
    split
    · exact started
    · exact chooseDerive (started.updateRequest _ fun q hq => R.request_working hq rfl
        fun g k => .inr ⟨b.inputs, (Option.some.inj k).symm⟩)

/-- A learned entry placed (R105). -/
theorem placeLearned (h : s.Obeys R) {q : Derivation} {g : Grade} (hq : R.request s.depth q) (hg : q.result = some g) :
    (s.placeLearned q g).Obeys R := by
  unfold State.placeLearned
  split
  · exact (h.setEntry _ rfl (R.entry_learned hq hg)).endRequest q _
  · exact h

/-- The room an INSTALL finds, and the placement after it (R102 to R105). -/
theorem installRoom (h : s.Obeys R) {q : Derivation} {g : Grade} (hq : R.request s.depth q) (hg : q.result = some g) :
    (s.installRoom q g).Obeys R := by
  unfold State.installRoom
  split
  · exact h.placeLearned hq hg
  · split
    · next i _ => exact placeLearned ((h.retire i).congr) hq hg
    · exact (h.endRequest q .full).congr

/-- An INSTALL performed (R100 to R105). -/
theorem installFor (h : s.Obeys R) {q : Derivation} {g : Grade} (hq : R.request s.depth q) (hg : q.result = some g) :
    (s.installFor q g).Obeys R := by
  refine chooseDerive ?_
  split
  · unfold State.installStale
    split
    · exact (h.endRequest q .stale).congr
    · exact h.updateRequest q.number fun _ hr => R.request_working hr rfl fun _ k => by cases k
  · split
    · exact h.endRequest q .redundant
    · exact h.installRoom hq hg

/-! ### Frames -/

/-- A record handed over to the Grade Port (R82, R83). -/
theorem emit (h : s.Obeys R) {r : GradeRecord} (hr : R.record r) : (s.emit r).Obeys R := by
  have push (q : List GradeRecord) (hq : q ⊆ s.port.queue) :
      State.Obeys { s with port := { s.port with queue := q ++ [r] } } R :=
    { h with
      records := fun x k => by
        rcases List.mem_append.mp k with k | k
        · exact h.records x (hq k)
        · rw [List.mem_singleton.mp k]; exact hr }
  unfold State.emit
  split
  · exact push _ fun _ => id
  · refine (push (supersede r.channel s.port.queue) ?_).congr
    unfold supersede
    split
    · exact List.eraseP_subset
    · exact List.tail_subset _

/-- The end of a channel's work (R76, R81). -/
theorem deliver (h : s.Obeys R) (n : Nat) (c : Chan) (o : ChannelOutcome) : (s.deliver n c o).Obeys R :=
  have glided := R.channel_glided n (h.channels c)
  (h.setChannel c glided).emit (R.record_formed n c o glided)

/-- The work of a DARK channel (R73). -/
theorem workDark (h : s.Obeys R) (w : FrameWork) (c : Chan) : (s.workDark w c).Obeys R :=
  have begun : R.channel ((s.channel c).beginFrame w.frame.number).settleDark :=
    R.channel_working (h.channels c) (Channel.sameGrades_beginFrame w.frame.number (s.channel c))
  (h.setChannel c begun).deliver _ c .dark

/-- A MATCH submitted (R69, R70). -/
theorem beginMatch (h : s.Obeys R) (w : FrameWork) (waiting : Option ClosedFrame) (c : Chan) (r : ChannelReading) :
    (s.beginMatch w waiting c r).Obeys R :=
  have begun := R.channel_working (h.channels c) (Channel.sameGrades_beginFrame w.frame.number (s.channel c))
  (h.setChannel c begun).congr

/-- A frame's work complete (R61). -/
theorem completeFrame (h : s.Obeys R) (waiting : Option ClosedFrame) : (s.completeFrame waiting).Obeys R := by
  cases waiting <;> exact h.congr

/-- The parts of a frame (R60). -/
theorem runParts (h : s.Obeys R) (w : FrameWork) (waiting : Option ClosedFrame) (l : List Chan) :
    (s.runParts w waiting l).Obeys R :=
  State.runParts_keeps (P := (·.Obeys R)) w waiting (fun _ hu => hu.completeFrame waiting)
    (fun _ c r _ hu => hu.beginMatch w waiting c r) (fun _ c hu => hu.workDark w c) (fun _ _ _ _ hu => hu.congr) l s h

/-- What follows in a channel's part (R60). -/
theorem continuePart (h : s.Obeys R) (w : FrameWork) (waiting : Option ClosedFrame) (c : Chan)
    (l : List AnchorReading) : (s.continuePart w waiting c l).Obeys R := by
  unfold State.continuePart
  split
  · exact h.congr
  · exact h.runParts w waiting _

/-- A handed-over frame starts (R58). -/
theorem startFrame (h : s.Obeys R) : s.startFrame.Obeys R := by
  unfold State.startFrame
  split
  · exact h.runParts _ none chans
  · exact h

/-- A MATCH with a result (R38, R71, R74, R75). -/
theorem matchFound (h : s.Obeys R) (n : Nat) (c : Chan) (i : Slot) : (s.matchFound n c i).Obeys R := by
  unfold State.matchFound
  split
  · next e x hl =>
    obtain ⟨he, hb⟩ := Cell.live_eq_some hl
    have obeyed := h.entries i e he
    have matched (b : Bool) : R.entry s.depth (e.withLight .live (x.matched b)) :=
      R.entry_working obeyed rfl rfl (by simp only [Entry.withLight, Body.grade?, hb, Illuminant.matched])
    have settled : R.channel (((s.channel c).takeWinner i).settleMatch n x.grade ((s.channel c).switches i)) := by
      refine R.channel_retargeted n obeyed hb (R.channel_working (h.channels c) ?_)
      refine Channel.SameGrades.trans ?_ (Channel.sameGrades_takeWinner i (s.channel c))
      split <;> exact ⟨rfl, rfl⟩
    have written :=
      (h.setEntry (c := (s.cell i).touchedUp _) i rfl (matched ((s.channel c).winner != some i))).setChannel c settled
    refine State.Obeys.deliver ?_ n c .matched
    split
    · exact State.Obeys.congr written
    · exact written
  · exact h

/-- A MATCH that misses (R72). -/
theorem matchMissed (h : s.Obeys R) (n : Nat) (c : Chan) (input : ChannelInput) :
    (s.matchMissed n c input).Obeys R := by
  have missed : (s.setChannel c (s.channel c).settleMiss).Obeys R :=
    h.setChannel c (R.channel_working (h.channels c) ⟨rfl, rfl⟩)
  refine State.Obeys.deliver ?_ n c .miss
  split
  · exact missed.considerMiss c _ n
  · exact missed

/-- A channel's MATCH performed and settled (R34). -/
theorem matchChannel (h : s.Obeys R) (w : FrameWork) (c : Chan) (k : Key) (mode : MatchMode) :
    (s.matchChannel w c k mode).Obeys R := by
  unfold State.matchChannel
  split
  · exact h.matchFound _ c _
  · exact h.matchMissed _ c _

/-! ### Anchors -/

/-- An anchor's working fields written. -/
theorem writeAnchor (h : s.Obeys R) {i : Slot} {e : Entry} {a : AnchorBody}
    (ha : (s.cell i).anchor = some (e, a)) (streak : Nat) (o : AnchorOutcome) :
    (s.writeAnchor i e a streak o).Obeys R := by
  obtain ⟨he, hb⟩ := Cell.anchor_eq_some ha
  exact h.setEntry i rfl (R.entry_working (h.entries i e he) rfl rfl (by simp only [Body.grade?, hb]))

/-- Doubt charged against a slot (R133). -/
theorem chargeDoubt (h : s.Obeys R) (w : Slot) : (s.chargeDoubt w).Obeys R := by
  unfold State.chargeDoubt
  split
  · exact h
  · next e x hl =>
    obtain ⟨he, hb⟩ := Cell.live_eq_some hl
    have doubted (st : LightState) (d : Nat) : R.entry s.depth (e.withLight st { x with doubt := d }) :=
      R.entry_working (h.entries w e he) rfl rfl (by simp only [Entry.withLight, Body.grade?, hb])
    simp only
    split
    · exact ((h.setEntry w rfl (doubted .held _)).clearWinners _).congr
    · exact h.setEntry w rfl (doubted .live _)

/-- A check of an anchor reading (R126 to R133). -/
theorem checkAnchor (h : s.Obeys R) (r : AnchorReading) (tag : Nat) (inSet : Bool) :
    (s.checkAnchor r tag inSet).Obeys R := by
  unfold State.checkAnchor
  split
  · next e a ha =>
    have written := h.writeAnchor ha
    split
    · split
      · exact written _ _
      split
      · exact written _ _
      split
      · exact written _ _
      unfold State.failAnchor
      split
      · have drifted : ((s.writeAnchor r.slot e a 0 .fail).raise .drift r.slot.val).Obeys R := (written 0 .fail).congr
        simp only
        split
        · exact drifted.chargeDoubt _
        · exact drifted
      · exact written _ _
    · exact h.congr
  · exact h.congr

/-! ### Aging -/

/-- A slot as a SWEEP STEP leaves it (R118, R120): its entry is as it was but for working fields, or gone. -/
theorem aged (h : s.Obeys R) (snap : Vector ClassSnapshot 4) (winner : Bool) (i : Slot) (e : Entry)
    (k : ((s.cell i).aged snap winner).entry = some e) : R.entry s.depth e := by
  unfold Cell.aged at k
  split at k
  · next e₀ x hl =>
    obtain ⟨he, hb⟩ := Cell.live_eq_some hl
    simp only at k
    split at k
    · exact h.entries i e k
    split at k
    · cases k
    · cases k
      refine R.entry_working (h.entries i e₀ he) rfl rfl ?_
      simp only [Body.grade?, hb, Illuminant.aged]
      split <;> rfl
  · exact h.entries i e k

/-- A SWEEP STEP performed (R118). -/
theorem sweepBlock (h : s.Obeys R) (w : Sweep) (b : Block) : (s.sweepBlock w b).Obeys R := by
  have walked : (s.mapCells fun i c => if inBlock b i then c.aged w.snapshot (s.isWinner i) else c).Obeys R := by
    refine h.mapCells fun i e k => ?_
    split at k
    · exact h.aged _ _ i e k
    · exact h.entries i e k
  unfold State.sweepBlock State.afterStep
  split <;> exact walked.congr

/-- A sweep starts (R116). -/
theorem startSweep (h : s.Obeys R) : s.startSweep.Obeys R := by
  unfold State.startSweep
  split
  · exact h.congr
  · exact h

end State.Obeys

/-! ### SERVICE's operations, the link and the commands -/

/-- What rules must say besides for the commands that write the scope depth, or what SERVICE's operations carry. -/
structure Rules.Serves (R : Rules) : Prop where
  /-- An operation that carries a grade in range, and closes no scope but the current one, may be submitted. -/
  submitted : ∀ {d : Nat} {op : ServiceOp}, op.holds → op.closes d → R.op d op
  /-- A waiting PLACE may create its entry (R155). -/
  created : ∀ {d : Nat} {t : Target} {n : NewEntry}, R.op d (.place t n) → ∀ d', R.entry d' (n.entry d')
  /-- A waiting AMEND may write what it carries (R156). -/
  amended : ∀ {d : Nat} {t : Target} {c : Change}, R.op d (.amend t c) → ∀ d' e, R.entry d' e → R.entry d' (c.on e)
  /-- The empty part may be at depth 0 (R24, R174). -/
  depth_zero : R.depth 0
  channel_powerOn : ∀ enabled zoneSet, R.channel (.powerOn enabled zoneSet)
  channel_restarted : ∀ {ch : Channel}, R.channel ch → R.channel ch.restarted
  /-- A scope may be opened below the greatest depth (R139); a waiting operation is judged anew where the link does not
  rule one out. -/
  depth_opened : ∀ {d : Nat}, d < Config.maxDepth → R.depth (d + 1)
  op_opened : ¬R.linked → ∀ {d : Nat} {op : ServiceOp}, R.op d op → R.op (d + 1) op
  entry_opened : ∀ {d : Nat} {e : Entry}, R.entry d e → R.entry (d + 1) e
  request_opened : ∀ {d : Nat} {q : Derivation}, R.request d q → R.request (d + 1) q
  /-- A waiting DROP may lower the depth, retire and restore (R144, R145), and remove requests (R108). -/
  depth_dropped : ∀ {d k : Nat}, R.op d (.drop k) → R.depth d → R.depth (k - 1)
  entry_dropped : ∀ {d k : Nat} {e e' : Entry} {g : Nat}, R.op d (.drop k) → R.entry d e →
    ((⟨g, some e⟩ : Cell).dropped k).entry = some e' → R.entry (k - 1) e'
  request_dropped : ∀ {d k : Nat} {q : Derivation}, R.op d (.drop k) → R.request d q → q.issueDepth ≠ k →
    R.request (k - 1) q
  /-- A waiting KEEP may lower the depth, stamps, shadows and issue depths (R147, R108). -/
  depth_kept : ∀ {d k : Nat}, R.op d (.keep k) → R.depth d → R.depth (k - 1)
  entry_kept : ∀ {d k : Nat} {e : Entry}, R.op d (.keep k) → R.entry d e → R.entry (k - 1) (e.kept k)
  request_kept : ∀ {d k : Nat} {q : Derivation}, R.op d (.keep k) → R.request d q →
    R.request (k - 1) (if q.issueDepth = k then { q with issueDepth := k - 1 } else q)

/-- The rules between the grant of SERVICE's operation and its reply: no operation waits, and the link does not agree
yet. -/
def Rules.granted (R : Rules) : Rules := { R with linked := False, op := fun _ _ => False }

/-- The unit's choice does not depend on the scope depth. -/
theorem State.chooseDerive_setDepth (s : State) (d : Nat) :
    s.chooseDerive.setDepth d = (s.setDepth d).chooseDerive := by
  unfold State.chooseDerive
  simp only [State.setDepth_arbiter, State.setDepth_derive]
  split
  · rfl
  split
  · rfl
  split
  · rfl
  split <;> rfl

/-- The drops of RESTART write the table and the winners alone (R149). -/
theorem State.dropAll_eq (d : Nat) (s : State) :
    s.dropAll d = { s with table := (s.dropAll d).table, channels := (s.dropAll d).channels } := by
  induction d generalizing s with
  | zero => rfl
  | succ d ih => exact ih (s.dropTable (d + 1))

/-- A channel after RESTART (R88, R149): what the drops and the emptied queue leave of it, restarted. -/
theorem State.channel_restartAll (s : State) (c : Chan) :
    s.restartAll.channel c =
      (Channel.loseDerivation (goneNumbers (fun _ => true) (s.dropAll s.depth).derive.queue)
        ((s.dropAll s.depth).channel c)).restarted := by
  rw [← State.channel_leaveQueue]
  exact State.channel_mapChannels ((s.dropAll s.depth).leaveQueue fun _ => true) Channel.restarted c

/-- The grade that two checked parts carry is in range (R177). -/
theorem gradeOf_holds {g : Gains} {m : Matrix} (hg : gainsOk g = true) (hm : matrixOk m = true) :
    (gradeOf g m).holds := by
  simp only [gainsOk, matrixOk, coefficientOk, Bool.and_eq_true, decide_eq_true_eq] at hg hm
  simp only [Grade.holds, coefficientHolds, gradeOf]
  omega

/-- The gains and the matrix of a checked body are in range. -/
theorem bodyOk_grade {b : BodyParts} {g : Gains} {m : Matrix} (h : bodyOk b = true) (hg : b.gains = some g)
    (hm : b.matrix = some m) : (gradeOf g m).holds := by
  simp only [bodyOk, Bool.and_eq_true, carriedOk_iff] at h
  obtain ⟨⟨⟨gains, matrix⟩, -⟩, -⟩ := h
  exact gradeOf_holds (gains g hg) (matrix m hm)

/-- A PLACE that is checked carries a body in range (R154). -/
theorem checkPlace_holds {s : State} {q : PlaceRequest} {x : Target × NewEntry} (h : checkPlace s q = .ok x) :
    x.2.body.holds := by
  unfold checkPlace at h
  split at h
  · cases h
  split at h
  · next hv =>
    split at h
    · cases h
    · next b hb =>
      cases h
      simp only [placeValuesOk, Bool.and_eq_true] at hv
      obtain ⟨-, body⟩ := hv
      unfold placedBody at hb
      split at hb
      · next hg hm _ _ _ =>
        have held := bodyOk_grade body hg hm
        split at hb
        · cases hb; exact held
        split at hb
        · cases hb; exact held
        · cases hb
      · split at hb <;> cases hb
        trivial
      · cases hb
  · cases h

/-- An AMEND that is checked carries a grade in range (R156). -/
theorem checkAmend_holds {s : State} {q : AmendRequest} {x : Target × Change} (h : checkAmend s q = .ok x) :
    ∀ g, x.2.grade = some g → g.holds := by
  unfold checkAmend at h
  split at h
  · cases h
  split at h
  · next hv =>
    split at h
    · next g a hg _ =>
      cases h
      rintro g' rfl
      simp only [amendValuesOk, Bool.and_eq_true] at hv
      obtain ⟨⟨-, body⟩, -⟩ := hv
      unfold carriedGrade at hg
      split at hg <;> cases hg
      next hg hm => exact bodyOk_grade body hg hm
    · cases h
  · cases h

namespace State.Obeys

variable {s t : State} {R : Rules}

/-! ### The link -/

/-- The link written, with no request in work before or after that waits for SERVICE. -/
theorem setLink (h : s.Obeys R) {l : ControlLink} (before : s.link.state ≠ .working .operation)
    (after : l.state ≠ .working .operation) : (s.setLink l).Obeys R where
  __ := h
  link k := (h.link k).trans ⟨fun e => absurd e before, fun e => absurd e after⟩

/-- A request answered that did not wait for SERVICE. -/
theorem reply (h : s.Obeys R) (hl : s.link.state ≠ .working .operation) {r : Reply} : (s.reply r).Obeys R :=
  h.setLink hl (by simp)

/-- An update that answers a request when it is taken, and leaves every other field the rules speak of. -/
theorem answer (h : s.Obeys R) (hl : s.link.state = .idle)
    (link : ∃ r, t.link.state = .replyReady r := by exact ⟨_, rfl⟩) (depth : t.depth = s.depth := by rfl)
    (service : t.arbiter.service = s.arbiter.service := by rfl) (table : t.table = s.table := by rfl)
    (channels : t.channels = s.channels := by rfl) (queue : t.derive.queue = s.derive.queue := by rfl)
    (records : t.port.queue = s.port.queue := by rfl) : t.Obeys R := by
  obtain ⟨r, link⟩ := link
  exact (h.reply (by simp [hl]) (r := r)).congr depth service link table channels queue records

/-- A period that shifts bytes out and no more. -/
theorem period (h : s.Obeys R) (shown : LinkStatus) (tail : List Byte) : (s.period shown tail).Obeys R := h.congr

/-- A request submitted to SERVICE (R151). -/
theorem submitService (h : s.Obeys R) {op : ServiceOp} (hop : R.op s.depth op) : (s.submitService op).Obeys R where
  __ := h
  link _ := ⟨fun _ => rfl, fun _ => rfl⟩
  ops _ k := Option.some.inj k ▸ hop

/-- A request checked, and submitted or refused (R151). -/
theorem submitChecked {α : Type} (h : s.Obeys R) (hl : s.link.state = .idle) {op : α → ServiceOp}
    {check : Except Reason α} (hop : ∀ x, check = .ok x → R.op s.depth (op x)) :
    (s.submitChecked op check).Obeys R := by
  cases check with
  | ok x => exact h.submitService (hop x rfl)
  | error r => exact h.answer hl

/-- A single-slot request taken, whose designator is all that is checked (R151, R152). -/
theorem submitTarget (h : s.Obeys R) (hl : s.link.state = .idle) {op : Target → ServiceOp} (d : Designator)
    (hop : ∀ t, R.op s.depth (op t)) : (s.submitChecked op (resolveDesignator s d)).Obeys R :=
  h.submitChecked hl fun x _ => hop x

/-- A period with a message (R165, R166, R176). -/
theorem openMessage (h : s.Obeys R) (tail : List Byte) {f : State → State}
    (hf : ∀ u : State, u.Obeys R → u.link.state = .idle → (f u).Obeys R) : (s.openMessage tail f).Obeys R := by
  unfold State.openMessage
  split
  · split
    · next hl => exact hf _ (h.period _ _) hl
    · exact h.period _ _
    · exact h.period _ _
  · exact h.congr

/-- A message taken (R168). -/
theorem takeMessage (h : s.Obeys R) {f : State → State}
    (hf : ∀ u : State, u.Obeys R → u.link.state = .idle → (f u).Obeys R) : (s.takeMessage f).Obeys R :=
  State.Obeys.openMessage (h.congr (t := { s with trailing := s.trailing.tail })) _ hf

/-- A reading word taken (R64). -/
theorem takeWord (h : s.Obeys R) {f : State → State} (hf : (f s).Obeys R) : (s.takeWord f).Obeys R := by
  unfold State.takeWord
  split
  · exact hf
  · exact h

/-- A SET CHANNEL performed with its reply (R85). -/
theorem writeChannel (h : s.Obeys R) (hl : s.link.state ≠ .working .operation) (c : Chan) (f : ChannelFields) :
    (s.writeChannel c f).Obeys R :=
  State.Obeys.reply (h.setChannel c (R.channel_working (h.channels c) (Channel.sameGrades_write f _))) hl

/-- A waiting SET CHANNEL that is due (R86). -/
theorem performChannel (h : s.Obeys R) : s.performChannel.Obeys R := by
  unfold State.performChannel
  split
  · next hl =>
    split
    · exact h
    · exact h.writeChannel (by simp [hl]) _ _
  · exact h

/-- The events that come about at once (log entry 3). -/
theorem catchUp (h : s.Obeys R) : s.catchUp.Obeys R :=
  State.catchUp_keeps (P := (·.Obeys R)) (fun _ => performChannel) (fun _ => startFrame) (fun _ hu => hu.congr)
    (fun _ => startSweep) s h

/-! ### Reading words -/

/-- An open word judged (R49 to R51). -/
theorem openFrame (h : s.Obeys R) (n tag : Nat) : (s.openFrame n tag).Obeys R := by
  unfold State.openFrame
  split
  · exact h.congr
  split
  · exact h.congr
  · have ticked : (s.passTicks n).Obeys R := by
      unfold State.passTicks
      split
      · exact h.congr
      · exact h
    exact ticked.congr

/-- A ZONE word (R53). -/
theorem bufferZone (h : s.Obeys R) (z : Zone) (r : ZoneReading) : (s.bufferZone z r).Obeys R := by
  unfold State.bufferZone
  split
  · exact h.congr
  · exact h.congr
  · exact h

/-- An ANCHOR word (R54). -/
theorem bufferAnchor (h : s.Obeys R) (r : AnchorReading) : (s.bufferAnchor r).Obeys R := by
  unfold State.bufferAnchor
  split
  · exact h.congr
  · split <;> exact h.congr
  · exact h

/-- A CLOSE word (R55). -/
theorem closeFrame (h : s.Obeys R) : s.closeFrame.Obeys R := by
  unfold State.closeFrame
  split <;> exact h.congr

/-! ### Requests answered when they are taken -/

section settings
variable (h : s.Obeys R) (hl : s.link.state = .idle)
include h hl

theorem setCursor (slot step : Nat) : (s.setCursor slot step).Obeys R := by
  unfold State.setCursor
  split
  · split <;> exact h.answer hl
  · exact h.answer hl

theorem setProfile (profile : Nat) (f : ProfileFields) : (s.setProfile profile f).Obeys R := by
  unfold State.setProfile
  split
  · split <;> exact h.answer hl
  · exact h.answer hl

theorem setServiceMatch (profile filter : Nat) : (s.setServiceMatch profile filter).Obeys R := by
  unfold State.setServiceMatch
  split <;> exact h.answer hl

theorem stageProfile (profile : Nat) : (s.stageProfile profile).Obeys R := by
  unfold State.stageProfile
  split <;> exact h.answer hl

theorem takeSetChannel (channel : Nat) (f : ChannelFields) : (s.takeSetChannel channel f).Obeys R := by
  have busy : s.link.state ≠ .working .operation := by simp [hl]
  unfold State.takeSetChannel
  split
  · split
    · split
      · exact h.setLink busy (by simp)
      · exact h.writeChannel busy _ f
    · exact h.answer hl
  · exact h.answer hl

theorem readChannel (channel : Nat) : (s.readChannel channel).Obeys R := by
  unfold State.readChannel
  split <;> exact h.answer hl

theorem setLearning (reserve eviction : Option Nat) : (s.setLearning reserve eviction).Obeys R := by
  unfold State.setLearning
  split <;> exact h.answer hl

theorem setClass (cls : Nat) (f : ClassFields) : (s.setClass cls f).Obeys R := by
  unfold State.setClass
  split
  · simp only
    split <;> exact h.answer hl
  · exact h.answer hl

theorem clearCauses (causes : Nat) : (s.clearCauses causes).Obeys R := by
  unfold State.clearCauses
  split <;> exact h.answer hl

theorem setNoticeMask (causes : Nat) : (s.setNoticeMask causes).Obeys R := by
  unfold State.setNoticeMask
  split <;> exact h.answer hl

/-- A scope opened (R139). -/
theorem openScope (serves : R.Serves) : s.openScope.Obeys R := by
  unfold State.openScope
  split
  · next hd =>
    have unlinked : ∀ op, s.arbiter.service = some op → ¬R.linked := fun op hop k =>
      absurd ((h.link k).mp (by simp [hop])) (by simp [hl])
    have opened : State.Obeys (s.setDepth (s.depth + 1)) R :=
      { h with
        depth := serves.depth_opened hd
        ops := fun op k => serves.op_opened (unlinked op k) (h.ops op k)
        entries := fun i e k => serves.entry_opened (h.entries i e k)
        requests := fun q k => serves.request_opened (h.requests q k) }
    exact opened.answer hl
  · exact h.answer hl

/-- A CLOSE SCOPE taken (R140): the walk it submits is for the current depth. -/
theorem takeCloseScope (serves : R.Serves) (mode : Nat) : (s.takeCloseScope mode).Obeys R := by
  unfold State.takeCloseScope
  split
  · exact h.answer hl
  split
  · exact h.answer hl
  · next hd =>
    have current : s.depth = s.depth ∧ 1 ≤ s.depth := ⟨rfl, by omega⟩
    refine h.submitService (serves.submitted ?_ ?_)
    · split <;> trivial
    · split <;> exact current

end settings

/-! ### SERVICE's grants -/

/-- SERVICE's operation is granted (R44). -/
theorem grantService (h : s.Obeys R) : s.grantService.Obeys R.granted :=
  { h with link := False.elim, ops := fun _ k => by cases k }

/-- The reply of a granted operation: the link and SERVICE agree again (R151). -/
theorem replyGranted (h : s.Obeys R.granted) (r : Reply) : (s.reply r).Obeys R where
  __ := h
  link _ := by
    refine ⟨fun k => ?_, fun k => by cases k⟩
    obtain ⟨op, hop⟩ := Option.isSome_iff_exists.mp k
    exact (h.ops op hop).elim
  ops op k := (h.ops op k).elim

/-- A single-slot operation at its grant (R151 to R153). -/
theorem atSlot (h : s.Obeys R) (t : Target) {act : State → Slot → State × Reply}
    (hact : ∀ (u : State) (i : Slot), u.Obeys R.granted → (act u i).1.Obeys R.granted) :
    (s.grantService.atSlot t act).Obeys R := by
  have moved (u : State) (hu : u.Obeys R.granted) : (u.moveCursor t.viaCursor).Obeys R.granted := by
    unfold State.moveCursor
    split
    · exact hu.congr
    · exact hu
  refine replyGranted (moved _ ?_) _
  split
  · exact hact _ _ h.grantService
  · exact h.grantService

/-- An entry changed after the owned-depth test (R142, R143). -/
theorem amendEntry (h : s.Obeys R) {i : Slot} {e : Entry} (he : (s.cell i).entry = some e) {bump : Bool}
    {f : Entry → Entry} {s' : State} (hs : s.amendEntry i e bump f = some s')
    (hf : ∀ sh, R.entry s.depth { e with shadow := sh } → R.entry s.depth (f { e with shadow := sh })) :
    s'.Obeys R := by
  have obeyed := h.entries i e he
  have amended (e' : Entry) (ha : e.amended s.depth f = some e') : R.entry s.depth e' := by
    unfold Entry.amended at ha
    split at ha
    · cases ha; exact hf e.shadow obeyed
    · next owned =>
      split at ha
      · next hsh =>
        cases ha
        have stamped : e.stamp < s.depth := by simpa [Entry.ownedDepth, hsh] using owned
        exact hf _ (R.entry_shadowed stamped obeyed)
      · cases ha
  unfold State.amendEntry at hs
  split at hs
  · next e' ha =>
    cases hs
    refine h.setCell i fun e'' k => ?_
    have same : e'' = e' := by split at k <;> exact (Option.some.inj k).symm
    exact same ▸ amended e' ha
  · cases hs

/-- An entry created in a slot (R155). -/
theorem create (h : s.Obeys R) {n : NewEntry} (hn : R.entry s.depth (n.entry s.depth)) (i : Slot) :
    (s.create n i).1.Obeys R :=
  h.setEntry i rfl hn

/-- A PLACE at its slot (R155). -/
theorem placeAt (h : s.Obeys R) {n : NewEntry} (hn : R.entry s.depth (n.entry s.depth)) (i : Slot) :
    (State.placeAt n s i).1.Obeys R := by
  unfold State.placeAt
  split
  · exact h
  split
  · exact h
  split
  · exact h.create hn i
  · exact (h.retire i).create hn i

/-- An AMEND at its slot (R156). -/
theorem amendAt (h : s.Obeys R) {c : Change} (hc : ∀ e, R.entry s.depth e → R.entry s.depth (c.on e)) (i : Slot) :
    (State.amendAt c s i).1.Obeys R := by
  unfold State.amendAt
  split
  · exact h
  · next e he =>
    split
    · exact h
    split
    · exact h
    split
    · next hs => exact h.amendEntry he hs fun _ => hc _
    · exact h

/-- A SET STATE at its slot (R157): an entry's grade stands. -/
theorem setStateAt (h : s.Obeys R) (st : LightState) (i : Slot) : (State.setStateAt st s i).1.Obeys R := by
  unfold State.setStateAt
  split
  · exact h
  · next e he =>
    split
    · exact h
    · next now x hb =>
      split
      · exact h
      have graded : (Body.illuminant st (x.moved st)).grade? = e.body.grade? := by cases st <;> rw [hb] <;> rfl
      split
      · next hs =>
        have moved := h.amendEntry he hs fun _ hx => R.entry_working hx rfl rfl graded
        simp only
        split
        · exact moved.clearWinners _
        · exact moved
      · exact h

/-- A PIN or UNPIN at its slot (R158). -/
theorem setPinAt (h : s.Obeys R) (pin : Bool) (i : Slot) : (State.setPinAt pin s i).1.Obeys R := by
  unfold State.setPinAt
  split
  · exact h
  · next e he =>
    split
    · next hs => exact h.amendEntry he hs fun _ hx => R.entry_working hx rfl rfl rfl
    · exact h

/-- A CLEAR COUNTS at its slot (R159). -/
theorem clearCountsAt (h : s.Obeys R) (i : Slot) : (State.clearCountsAt s i).1.Obeys R := by
  unfold State.clearCountsAt
  split
  · exact h
  · next e he =>
    refine h.setEntry i rfl (R.entry_working (h.entries i e he) rfl rfl ?_)
    show e.body.cleared.grade? = e.body.grade?
    cases e.body <;> rfl

/-- A RETIRE at its slot (R160). -/
theorem retireAt (h : s.Obeys R) (i : Slot) : (State.retireAt s i).1.Obeys R := by
  unfold State.retireAt
  split
  · exact h
  · exact h.retire i

/-- CLEAR TABLE (R175). -/
theorem clearAll (h : s.Obeys R) : s.clearAll.Obeys R := by
  have wiped : (s.mapCells fun _ c => c.wiped).Obeys R := by
    refine h.mapCells fun i e k => h.entries i e ?_
    unfold Cell.wiped at k
    split at k
    · exact k
    · cases k
  exact ((wiped.clearWinners _).emptyQueue).congr

/-- The table part of a DROP writes no channel's grades. -/
theorem channels_dropTable (h : ∀ c, R.channel (s.channel c)) (k : Nat) (c : Chan) :
    R.channel ((s.dropTable k).channel c) := by
  rw [State.channel_dropTable]
  exact R.channel_working (h c) (Channel.sameGrades_loseWinner _ _)

/-- The table part of a DROP leaves entries that obey the rules of the depth below. -/
theorem entries_dropTable (serves : R.Serves) {d k : Nat} (hop : R.op d (.drop k))
    (h : ∀ i e, (s.cell i).entry = some e → R.entry d e) (i : Slot) (e : Entry)
    (he : ((s.dropTable k).cell i).entry = some e) : R.entry (k - 1) e := by
  rw [State.cell_dropTable] at he
  cases hc : s.cell i with
  | mk g entry =>
    rw [hc] at he
    cases entry with
    | none => cases he
    | some e₀ => exact serves.entry_dropped hop (h i e₀ (by rw [hc])) he

/-- A DROP (R144 to R146). -/
theorem dropScope (h : s.Obeys R.granted) (serves : R.Serves) {k : Nat} (hop : R.op s.depth (.drop k)) :
    (s.dropScope k).Obeys R.granted := by
  have left : State.Obeys (((s.dropTable k).leaveQueue fun q => q.issueDepth == k).setDepth (k - 1)) R.granted :=
    { depth := serves.depth_dropped hop h.depth
      link := False.elim
      ops := h.ops
      entries := entries_dropTable serves hop h.entries
      channels := fun c => by
        rw [State.channel_setDepth, State.channel_leaveQueue]
        exact R.channel_working (channels_dropTable (R := R) h.channels k c) (Channel.sameGrades_loseDerivation _ _)
      requests := fun q hq => by
        obtain ⟨hq, hk⟩ := List.mem_filter.mp hq
        exact serves.request_dropped hop (h.requests q hq) (by simpa using hk)
      records := h.records }
  unfold State.dropScope
  rw [State.chooseDerive_setDepth]
  exact left.chooseDerive

/-- A KEEP (R147). -/
theorem keepScope (h : s.Obeys R.granted) (serves : R.Serves) {k : Nat} (hop : R.op s.depth (.keep k)) :
    (s.keepScope k).Obeys R.granted where
  depth := serves.depth_kept hop h.depth
  link := False.elim
  ops := h.ops
  entries i e he := by
    rw [State.cell_keepScope] at he
    unfold Cell.kept at he
    split at he
    · next e₀ he₀ => cases he; exact serves.entry_kept hop (h.entries i e₀ he₀)
    · next hn => rw [hn] at he; cases he
  channels := h.channels
  requests q hq := by
    obtain ⟨p, hp, rfl⟩ := List.mem_map.mp hq
    exact serves.request_kept hop (h.requests p hp)
  records := h.records

/-- The drops of RESTART (R149), from depth `d` down: the entries that are left obey the rules of depth 0. -/
theorem entries_dropAll (serves : R.Serves) (d : Nat) :
    ∀ s : State, (∀ i e, (s.cell i).entry = some e → R.entry d e) →
      ∀ i e, ((s.dropAll d).cell i).entry = some e → R.entry 0 e := by
  induction d with
  | zero => exact fun _ h => h
  | succ d ih =>
    exact fun s h => ih _ (entries_dropTable serves (serves.submitted trivial ⟨rfl, Nat.succ_pos d⟩) h)

/-- The drops of RESTART write no channel's grades. -/
theorem channels_dropAll (d : Nat) :
    ∀ s : State, (∀ c, R.channel (s.channel c)) → ∀ c, R.channel ((s.dropAll d).channel c) := by
  induction d with
  | zero => exact fun _ h => h
  | succ d ih => exact fun s h => ih _ (channels_dropTable h (d + 1))

/-- RESTART (R174). -/
theorem restartAll (h : s.Obeys R.granted) (serves : R.Serves) : s.restartAll.Obeys R.granted where
  depth := serves.depth_zero
  link := False.elim
  ops op k := h.ops op (by
    have same : (s.dropAll s.depth).arbiter = s.arbiter := by rw [State.dropAll_eq]
    exact same ▸ k)
  entries := entries_dropAll serves s.depth s h.entries
  channels c := by
    rw [State.channel_restartAll]
    exact serves.channel_restarted
      (R.channel_working (channels_dropAll s.depth s h.channels c) (Channel.sameGrades_loseDerivation _ _))
  requests q k := by simpa using List.of_mem_filter k
  records r k := by cases k

/-- The power-on values (R24). -/
theorem atPowerOn (serves : R.Serves) (l : Lines) : (s.atPowerOn l).Obeys R where
  depth := serves.depth_zero
  link _ := ⟨fun k => (by cases k), fun k => (by cases k)⟩
  ops op k := by cases k
  entries i e k := by
    have blank : (s.atPowerOn l).cell i = Cell.blank := by simp [State.atPowerOn, State.cell, State.reset]
    rw [blank] at k
    cases k
  channels c := by
    match c with
    | 0 | 1 | 2 | 3 => exact serves.channel_powerOn _ _
  requests q k := by cases k
  records r k := by cases k

end State.Obeys

/-! ### Every command keeps the rules -/

/-- The commands that are grants of SERVICE's operations (R151). -/
def isServiceGrant : Instr → Bool
  | .placeGrant | .amendGrant | .retireGrant | .setStateGrant | .pinGrant | .unpinGrant | .clearCountsGrant
  | .readEntryGrant | .seekGrant | .seekNextGrant | .dropWalk | .keepWalk | .restartWalk | .clearTableWalk => true
  | _ => false

namespace State.Obeys

variable {s t : State} {R : Rules} {c : Instr}

/-- A reading word keeps the rules. -/
theorem of_exec_word (h : s.Obeys R) (hc : isReadingWord c = true) (e : exec c s = .next t) : t.Obeys R := by
  have u := h.catchUp
  cases c with
  | openWord number tag => cases e; exact u.takeWord (u.openFrame _ _)
  | zoneWord zone a b level confidence => cases e; exact u.takeWord (u.bufferZone _ _)
  | anchorWord slot channel r g b => cases e; exact u.takeWord (u.bufferAnchor _)
  | closeWord => cases e; exact u.takeWord u.closeFrame
  | unknownKindWord kind => cases e; exact u.takeWord u.congr
  | _ => cases hc

/-- A select period that carries no request taken keeps the rules. -/
theorem of_exec_period (h : s.Obeys R) (hc : isPeriod c = true) (e : exec c s = .next t) : t.Obeys R := by
  have u := h.catchUp
  cases c with
  | fetch shown extra =>
    cases e
    split
    · split
      · next hl => exact u.setLink (by simp [hl]) (by simp)
      · exact u.period _ _
    · exact u.congr
  | fetchCutShort got =>
    cases e
    split
    · split
      · next hl =>
        split
        · exact u.congr
        · exact u.setLink (by simp [hl]) (by simp)
      · exact u.period _ _
    · exact u.congr
  | messageDropped shown code =>
    cases e
    split <;> exact u.congr
  | messageCutShort code => cases e; exact u.openMessage _ fun _ hv _ => hv.congr
  | selectAborted => cases e; exact u.congr
  | malformed code => cases e; exact u.takeMessage fun _ hv hl => hv.answer hl
  | _ => cases hc

/-- A request message keeps the rules: what is submitted was checked first. -/
theorem of_exec_request (h : s.Obeys R) (serves : R.Serves) (hc : isRequest c = true)
    (e : exec c s = .next t) : t.Obeys R := by
  have u := h.catchUp
  cases c with
  | place q =>
    cases e
    exact u.takeMessage fun _ hv hl => hv.submitChecked hl fun _ hx => serves.submitted (checkPlace_holds hx) trivial
  | amend q =>
    cases e
    exact u.takeMessage fun _ hv hl => hv.submitChecked hl fun _ hx => serves.submitted (checkAmend_holds hx) trivial
  | retire d | pin d | unpin d | clearCounts d | readEntry d =>
    cases e
    exact u.takeMessage fun _ hv hl => hv.submitTarget hl d fun _ => serves.submitted trivial trivial
  | setState d state =>
    cases e
    exact u.takeMessage fun _ hv hl => hv.submitChecked hl fun _ _ => serves.submitted trivial trivial
  | seek | seekNext =>
    cases e
    refine u.takeMessage fun v hv hl => ?_
    split
    · exact hv.submitService (serves.submitted trivial trivial)
    · exact hv.answer hl
  | setCursor slot step => cases e; exact u.takeMessage fun _ hv hl => hv.setCursor hl _ _
  | setProfile profile f => cases e; exact u.takeMessage fun _ hv hl => hv.setProfile hl _ _
  | setServiceMatch profile filter => cases e; exact u.takeMessage fun _ hv hl => hv.setServiceMatch hl _ _
  | stageProfile profile => cases e; exact u.takeMessage fun _ hv hl => hv.stageProfile hl _
  | setChannel channel f => cases e; exact u.takeMessage fun _ hv hl => hv.takeSetChannel hl _ _
  | readChannel channel => cases e; exact u.takeMessage fun _ hv hl => hv.readChannel hl _
  | setLearning reserve eviction => cases e; exact u.takeMessage fun _ hv hl => hv.setLearning hl _ _
  | readDerivations | readStatus | readCauses => cases e; exact u.takeMessage fun _ hv hl => hv.answer hl
  | setClass cls f => cases e; exact u.takeMessage fun _ hv hl => hv.setClass hl _ _
  | openScope => cases e; exact u.takeMessage fun _ hv hl => hv.openScope hl serves
  | closeScope mode => cases e; exact u.takeMessage fun _ hv hl => hv.takeCloseScope hl serves _
  | clearCauses causes => cases e; exact u.takeMessage fun _ hv hl => hv.clearCauses hl _
  | setNoticeMask causes => cases e; exact u.takeMessage fun _ hv hl => hv.setNoticeMask hl _
  | restart | clearTable =>
    cases e
    exact u.takeMessage fun _ hv _ => hv.submitService (serves.submitted trivial trivial)
  | _ => cases hc

/-- A grant of SERVICE's operation keeps the rules: they hold but for the link until the reply. -/
theorem of_exec_serviceGrant (h : s.Obeys R) (serves : R.Serves) (hc : isServiceGrant c = true)
    (e : exec c s = .next t) : t.Obeys R := by
  have u := h.catchUp
  cases c with
  | placeGrant =>
    cases e
    split
    · next t n hg =>
      exact u.atSlot t fun _ i hv => hv.placeAt (serves.created (u.ops _ (State.service_of_grant hg)) _) i
    · exact u
  | amendGrant =>
    cases e
    split
    · next t c hg =>
      exact u.atSlot t fun _ i hv => hv.amendAt (serves.amended (u.ops _ (State.service_of_grant hg)) _) i
    · exact u
  | retireGrant =>
    cases e
    split
    · exact u.atSlot _ fun _ i hv => hv.retireAt i
    · exact u
  | setStateGrant =>
    cases e
    split
    · exact u.atSlot _ fun _ i hv => hv.setStateAt _ i
    · exact u
  | pinGrant =>
    cases e
    split
    · exact u.atSlot _ fun _ i hv => hv.setPinAt true i
    · exact u
  | unpinGrant =>
    cases e
    split
    · exact u.atSlot _ fun _ i hv => hv.setPinAt false i
    · exact u
  | clearCountsGrant =>
    cases e
    split
    · exact u.atSlot _ fun _ i hv => hv.clearCountsAt i
    · exact u
  | readEntryGrant =>
    cases e
    split
    · exact u.atSlot _ fun _ _ hv => hv
    · exact u
  | seekGrant | seekNextGrant =>
    cases e
    split
    · exact State.Obeys.replyGranted (State.Obeys.congr u.grantService) _
    · exact u
  | dropWalk =>
    cases e
    split
    · next k hg =>
      exact State.Obeys.replyGranted (u.grantService.dropScope serves (u.ops _ (State.service_of_grant hg))) _
    · exact u
  | keepWalk =>
    cases e
    split
    · next k hg =>
      exact State.Obeys.replyGranted (u.grantService.keepScope serves (u.ops _ (State.service_of_grant hg))) _
    · exact u
  | restartWalk =>
    cases e
    split
    · exact State.Obeys.replyGranted (u.grantService.restartAll serves) _
    · exact u
  | clearTableWalk =>
    cases e
    split
    · exact State.Obeys.replyGranted u.grantService.clearAll _
    · exact u
  | _ => cases hc

/-- Every command keeps the rules. -/
theorem of_exec (h : s.Obeys R) (serves : R.Serves) (e : exec c s = .next t) : t.Obeys R := by
  have u := h.catchUp
  cases c with
  | powerOn | reset => cases e; exact State.Obeys.atPowerOn serves _
  | resetRelease => cases e; exact h.congr
  | partReady =>
    cases e
    split
    · exact h
    · exact h.congr
  | frameWorkStart => cases e; exact h.performChannel.startFrame
  | frameMatch =>
    cases e
    split
    · next c k mode w waiting _ _ =>
      exact State.Obeys.continuePart (State.Obeys.matchChannel (State.Obeys.congr u) w c k mode) w waiting c _
    · exact u
  | anchorCheck =>
    cases e
    split
    · next r _ tag w waiting _ _ =>
      exact State.Obeys.continuePart (State.Obeys.checkAnchor (State.Obeys.congr u) r tag _) w waiting _ _
    · exact u
  | search =>
    cases e
    split
    · split
      · exact State.Obeys.searchFor (State.Obeys.congr u) _
      · exact u.congr
    · exact u
  | blendStart =>
    cases e
    refine h.setDerive ?_
    unfold DerivationUnit.startBlend
    split
    · exact h.requests
    · split <;> exact h.requests
  | blendComplete => cases e; exact u.completeBlend
  | install =>
    cases e
    split
    · split
      · next q hq =>
        split
        · next g hg =>
          exact State.Obeys.installFor (State.Obeys.congr u) (u.requests q (List.mem_of_find?_eq_some hq)) hg
        · exact u.congr
      · exact u.congr
    · exact u
  | sweepStart => cases e; exact h.startSweep
  | sweepStep =>
    cases e
    split
    · exact State.Obeys.sweepBlock (State.Obeys.congr u) _ _
    · exact u
  | gradePortPull => cases e; exact { u with records := fun r k => u.records r (List.mem_of_mem_tail k) }
  | setChannelPerform => cases e; exact h.performChannel
  | openWord | zoneWord | anchorWord | closeWord | unknownKindWord => exact h.of_exec_word rfl e
  | fetch | fetchCutShort | messageDropped | messageCutShort | selectAborted | malformed =>
    exact h.of_exec_period rfl e
  | place | amend | retire | setState | pin | unpin | clearCounts | readEntry | seek | seekNext | setCursor
  | setProfile | setServiceMatch | stageProfile | setChannel | readChannel | setLearning | readDerivations
  | setClass | openScope | closeScope | readStatus | readCauses | clearCauses | setNoticeMask | restart
  | clearTable =>
    exact h.of_exec_request serves (by simp [isRequest, encodeMessage]) e
  | placeGrant | amendGrant | retireGrant | setStateGrant | pinGrant | unpinGrant | clearCountsGrant
  | readEntryGrant | seekGrant | seekNextGrant | dropWalk | keepWalk | restartWalk | clearTableWalk =>
    exact h.of_exec_serviceGrant serves rfl e

/-- Every step keeps the rules. -/
theorem of_step (h : s.Obeys R) (serves : R.Serves) (e : step s = .next t) : t.Obeys R :=
  step_keeps (P := (·.Obeys R)) (fun _ _ hu => hu.congr)
    (fun u hu => hu.congr (records := (GradePort.advance_bounds u.port).1)) (fun _ _ _ hu => hu.of_exec serves) s t h e

end State.Obeys

end Sys2Proof.Machine
end

section
/-!
PROOFS. The grades stay in range and the scope stack stays sound: both as rules (R11, R76, R99, R138 to R147).
-/
namespace Sys2Proof.Machine

-- One theorem after another: many at once would each hold a stack of their own.
set_option Elab.async false

/-! ### Grades in range -/

/-- The grade of a body, if it has one, is what is judged. -/
theorem Body.holds_iff (b : Body) : b.holds ↔ ∀ g, b.grade? = some g → g.holds := by
  cases b <;> simp [Body.holds, Body.grade?]

/-- A step from `x` toward `y`, by a fraction of the gap, stays within every range that holds both (R76). -/
theorem glideValue_within (r : Nat) {lo hi x y : Int} (hx : lo ≤ x ∧ x ≤ hi) (hy : lo ≤ y ∧ y ≤ hi) :
    lo ≤ glideValue r x y ∧ glideValue r x y ≤ hi := by
  unfold glideValue
  rcases Int.le_total x y with h | h
  · have low : 0 ≤ (y - x).tdiv r := Int.tdiv_nonneg (by omega) (Int.natCast_nonneg r)
    have high : (y - x).tdiv r ≤ y - x := Int.tdiv_le_self r (by omega)
    omega
  · have flip : (x - y).tdiv r = -(y - x).tdiv r := by rw [← Int.neg_tdiv]; congr 1; omega
    have low : 0 ≤ (x - y).tdiv r := Int.tdiv_nonneg (by omega) (Int.natCast_nonneg r)
    have high : (x - y).tdiv r ≤ x - y := Int.tdiv_le_self r (by omega)
    omega

/-- A grade formed value by value stays in range when every value does. -/
theorem Grade.zip_holds {f : Int → Int → Int} {a b : Grade} (ha : a.holds) (hb : b.holds)
    (hf : ∀ {lo hi x y : Int}, lo ≤ x ∧ x ≤ hi → lo ≤ y ∧ y ≤ hi → lo ≤ f x y ∧ f x y ≤ hi) :
    (Grade.zip f a b).holds := by
  obtain ⟨a1, a2, a3, a4, a5, a6, a7, a8, a9, a10, a11, a12⟩ := ha
  obtain ⟨b1, b2, b3, b4, b5, b6, b7, b8, b9, b10, b11, b12⟩ := hb
  exact ⟨hf a1 b1, hf a2 b2, hf a3 b3, hf a4 b4, hf a5 b5, hf a6 b6, hf a7 b7, hf a8 b8, hf a9 b9, hf a10 b10,
    hf a11 b11, hf a12 b12⟩

/-- The glide's steps stay in range (R76). -/
theorem glideSteps_holds (n pace : Nat) {target : Grade} (ht : target.holds) (r deadline : Nat) {d : Grade}
    (hd : d.holds) : (glideSteps n pace target r deadline d).2.2.holds := by
  induction r generalizing deadline d with
  | zero => exact hd
  | succ r ih =>
    unfold glideSteps
    split
    · exact ih _ (Grade.zip_holds hd ht (glideValue_within (r + 1)))
    · exact hd

/-- A clamped value is within its range. -/
theorem clampTo_within {lo hi : Int} (h : lo ≤ hi) (x : Int) : lo ≤ clampTo lo hi x ∧ clampTo lo hi x ≤ hi := by
  unfold clampTo
  split
  · omega
  · split <;> omega

/-- The result of a blend is in range, whatever its inputs (R99). -/
theorem blendGrade_holds (l : List BlendInput) : (blendGrade l).holds :=
  have gain (v : Grade → Int) : 0 ≤ blendGain v l ∧ blendGain v l ≤ 16383 := clampTo_within (by decide) _
  have coefficient (v : Grade → Int) : coefficientHolds (blendCoefficient v l) := clampTo_within (by decide) _
  ⟨gain _, gain _, gain _, coefficient _, coefficient _, coefficient _, coefficient _, coefficient _, coefficient _,
    coefficient _, coefficient _, coefficient _⟩

/-- The unity grade is in range. -/
theorem Grade.unity_holds : Grade.unity.holds := by simp [Grade.holds, coefficientHolds, Grade.unity]

/-- The grades of an entry and of its shadow are in range. -/
def Entry.gradesHold (e : Entry) : Prop := e.body.holds ∧ ∀ sh, e.shadow = some sh → sh.body.holds

/-- The two grades of a channel are in range. -/
def Channel.gradesHold (ch : Channel) : Prop := ch.target.holds ∧ ch.delivered.holds

/-- Glide steps keep a channel's grades in range (R76). -/
theorem Channel.gradesHold_advanceGlide {ch : Channel} (n : Nat) (h : ch.gradesHold) :
    (ch.advanceGlide n).gradesHold := by
  unfold Channel.advanceGlide
  split
  · simp only
    split
    · exact ⟨h.1, h.1⟩
    · exact ⟨h.1, glideSteps_holds n _ h.1 _ _ h.2⟩
  · exact h

/-- A new target in range keeps a channel's grades in range (R74, R75). -/
theorem Channel.gradesHold_retarget {ch : Channel} (n : Nat) {g : Grade} (hg : g.holds) (h : ch.gradesHold) :
    (ch.retarget n g).gradesHold := by
  unfold Channel.retarget
  split
  · exact h
  split
  · exact ⟨hg, hg⟩
  · exact ⟨hg, h.2⟩

/-- The copy a shadow keeps is in range when the body is. -/
theorem Body.copy_holds {b : Body} (h : b.holds) : b.copy.holds := by
  cases b with
  | illuminant st x => exact h
  | anchor a => trivial

/-- A created body is in range when what it is created from is. -/
theorem BodyCopy.created_holds {b : BodyCopy} (h : b.holds) : b.created.holds := by
  cases b with
  | illuminant st g k => exact h
  | anchor a => trivial

/-- A restored body is in range when it and its shadow's are. -/
theorem Body.restore_holds {copy : BodyCopy} {b : Body} (hc : copy.holds) (hb : b.holds) : (b.restore copy).holds :=
  match copy, b, hc, hb with
  | .illuminant _ _ _, .illuminant _ _, hc, _ => hc
  | .anchor _, .anchor _, _, _ => trivial
  | .illuminant _ _ _, .anchor _, _, _ => trivial
  | .anchor _, .illuminant _ _, _, hb => hb

/-- A changed body is in range when it and the carried grade are. -/
theorem Change.onBody_holds {c : Change} (hc : ∀ g, c.grade = some g → g.holds) {b : Body} (hb : b.holds) :
    (c.onBody b).holds := by
  cases b with
  | illuminant st x =>
    show (c.grade.getD x.grade).holds
    cases hg : c.grade with
    | none => exact hb
    | some g => exact hc g hg
  | anchor a => simp only [Change.onBody]; split <;> trivial

/-- Every grade is within its range, as rules: the depth and the link do not matter. -/
def gradeRules : Rules where
  depth _ := True
  linked := False
  op _ := ServiceOp.holds
  entry _ := Entry.gradesHold
  channel := Channel.gradesHold
  request _ q := ∀ g, q.result = some g → g.holds
  record r := r.grade.holds
  entry_working h _ hsh hg :=
    ⟨(Body.holds_iff _).mpr fun g k => (Body.holds_iff _).mp h.1 g (hg ▸ k), fun sh k => h.2 sh (hsh ▸ k)⟩
  entry_shadowed _ h := ⟨h.1, fun sh k => Option.some.inj k ▸ Body.copy_holds h.1⟩
  entry_learned hq hg := ⟨hq _ hg, fun _ k => by cases k⟩
  channel_working h k := ⟨k.1 ▸ h.1, k.2 ▸ h.2⟩
  channel_glided n h := Channel.gradesHold_advanceGlide n h
  channel_retargeted n he hb h := Channel.gradesHold_retarget n (by have := he.1; rwa [hb] at this) h
  record_formed _ _ _ h := h.2
  request_issued _ hr g k := by rw [hr] at k; cases k
  request_working h _ hr g k := by
    rcases hr g k with k | ⟨l, rfl⟩
    · exact h g k
    · exact blendGrade_holds l

/-- The rules say what the invariant says. -/
theorem State.gradesHold_iff (s : State) : s.gradesHold ↔ s.Obeys gradeRules :=
  ⟨fun ⟨entries, channels, requests, ops, records⟩ =>
      ⟨trivial, False.elim, ops, entries, channels, requests, records⟩,
    fun h => ⟨h.entries, h.channels, h.requests, h.ops, h.records⟩⟩

/-- A slot that a DROP restores holds its entry restored from the shadow; any other entry it leaves as it stands (R144,
R145). -/
theorem Cell.dropped_cases {g k : Nat} {e e' : Entry} (h : ((⟨g, some e⟩ : Cell).dropped k).entry = some e') :
    e.stamp ≠ k ∧
      ((∃ sh, e.shadow = some sh ∧ sh.depth = k ∧ e' = e.restored sh) ∨
        e' = e ∧ ∀ sh, e.shadow = some sh → sh.depth ≠ k) := by
  unfold Cell.dropped at h
  split at h
  · cases h
  · next hr =>
    have hs : e.stamp ≠ k := by simpa [Cell.dropRetires] using hr
    refine ⟨hs, ?_⟩
    cases hsh : e.shadow with
    | none =>
      have none_taken : (⟨g, some e⟩ : Cell).dropShadow k = none := by simp [Cell.dropShadow, hsh]
      rw [none_taken] at h
      exact .inr ⟨(Option.some.inj h).symm, fun _ k => by cases k⟩
    | some sh =>
      by_cases hk : sh.depth = k
      · have taken : (⟨g, some e⟩ : Cell).dropShadow k = some (e, sh) := by simp [Cell.dropShadow, hsh, hk, hs]
        rw [taken] at h
        exact .inl ⟨sh, rfl, hk, (Option.some.inj h).symm⟩
      · have none_taken : (⟨g, some e⟩ : Cell).dropShadow k = none := by simp [Cell.dropShadow, hsh, hk]
        rw [none_taken] at h
        exact .inr ⟨(Option.some.inj h).symm, fun _ k => Option.some.inj k ▸ hk⟩

/-- What the commands of SERVICE need of the grades. -/
theorem gradeRules_serves : gradeRules.Serves where
  submitted h _ := h
  created h _ := ⟨BodyCopy.created_holds h, fun _ k => by cases k⟩
  amended h _ _ he := ⟨Change.onBody_holds h he.1, he.2⟩
  depth_zero := trivial
  channel_powerOn _ _ := ⟨Grade.unity_holds, Grade.unity_holds⟩
  channel_restarted h := ⟨h.2, h.2⟩
  depth_opened _ := trivial
  op_opened _ _ _ h := h
  entry_opened h := h
  request_opened h := h
  depth_dropped _ _ := trivial
  entry_dropped _ h he := by
    obtain ⟨-, ⟨sh, hsh, -, rfl⟩ | ⟨rfl, -⟩⟩ := Cell.dropped_cases he
    · exact ⟨Body.restore_holds (h.2 sh hsh) h.1, fun _ k => by cases k⟩
    · exact h
  request_dropped _ h _ := h
  depth_kept _ _ := trivial
  entry_kept {_ k e} _ h := by
    refine ⟨h.1, fun sh hsh => ?_⟩
    simp only [Entry.kept] at hsh
    split at hsh
    · next sh₀ h₀ =>
      have held := h.2 sh₀ h₀
      split at hsh
      · split at hsh
        · cases hsh
        · cases hsh; exact held
      · cases hsh; exact held
    · cases hsh
  request_kept _ h := by split <;> exact h

/-- Settles O58: the rules on grades are kept by every step. -/
theorem stepKeepsGradesInRange : Obligations.StepKeepsGradesInRange := fun s t h e =>
  t.gradesHold_iff.mpr ((s.gradesHold_iff.mp h).of_step gradeRules_serves e)

/-! ### Scopes -/

/-- The scope stack is sound, as rules: a waiting close is for the current depth, and the link agrees with SERVICE. -/
def scopeRules : Rules where
  depth d := d ≤ 3
  linked := True
  op d op := op.closes d
  entry d e := e.scoped d
  channel _ := True
  request d q := q.issueDepth ≤ d
  record _ := True
  entry_working h hs hsh _ := ⟨hs ▸ h.1, fun sh k => hs ▸ h.2 sh (hsh ▸ k)⟩
  entry_shadowed hs h := ⟨h.1, fun sh k => Option.some.inj k ▸ ⟨hs, Nat.le_refl _⟩⟩
  entry_learned hq _ := ⟨hq, fun _ k => by cases k⟩
  channel_working _ _ := trivial
  channel_glided _ _ := trivial
  channel_retargeted _ _ _ _ := trivial
  record_formed _ _ _ _ := trivial
  request_issued hd _ := Nat.le_of_eq hd
  request_working h hd _ := hd ▸ h

/-- The rules say what the invariant says. -/
theorem State.scopesHold_iff (s : State) : s.scopesHold ↔ s.Obeys scopeRules :=
  ⟨fun ⟨link, depth, ops, entries, requests⟩ =>
      ⟨depth, fun _ => link, ops, entries, fun _ => trivial, requests, fun _ _ => trivial⟩,
    fun h => ⟨h.link trivial, h.depth, h.ops, h.entries, h.requests⟩⟩

/-- An entry scoped at a depth is scoped at every greater one. -/
theorem Entry.scoped_mono {d d' : Nat} {e : Entry} (hd : d ≤ d') (h : e.scoped d) : e.scoped d' :=
  ⟨h.1.trans hd, fun sh k => ⟨(h.2 sh k).1, (h.2 sh k).2.trans hd⟩⟩

/-- A DROP of the current depth leaves no stamp and no shadow of that depth (R144, R145). -/
theorem Entry.scoped_dropped {d g : Nat} {e e' : Entry} (h : e.scoped d)
    (he : ((⟨g, some e⟩ : Cell).dropped d).entry = some e') : e'.scoped (d - 1) := by
  obtain ⟨hs, hcase⟩ := Cell.dropped_cases he
  have stamp : e.stamp ≤ d - 1 := by have := h.1; omega
  rcases hcase with ⟨sh, -, -, rfl⟩ | ⟨rfl, hk⟩
  · exact ⟨stamp, fun _ k => by cases k⟩
  · refine ⟨stamp, fun sh k => ⟨(h.2 sh k).1, ?_⟩⟩
    have below := (h.2 sh k).2
    have other := hk sh k
    omega

/-- A KEEP of the current depth lowers the stamp and the shadow of that depth, and folds the shadow away where it would
not stand above the stamp (R147). -/
theorem Entry.scoped_kept {d : Nat} {e : Entry} (hd : 1 ≤ d) (h : e.scoped d) : (e.kept d).scoped (d - 1) := by
  have stamp : e.keptStamp d ≤ d - 1 := by
    have := h.1
    unfold Entry.keptStamp
    split <;> omega
  refine ⟨stamp, fun sh hsh => ?_⟩
  simp only [Entry.kept] at hsh ⊢
  split at hsh
  · next sh₀ h₀ =>
    obtain ⟨above, within⟩ := h.2 sh₀ h₀
    split at hsh
    · split at hsh
      · cases hsh
      · next fold => cases hsh; exact ⟨Nat.lt_of_not_le fold, Nat.le_refl _⟩
    · next other =>
      cases hsh
      have same : e.keptStamp d = e.stamp := if_neg (by omega)
      exact ⟨by omega, by omega⟩
  · cases hsh

/-- What the commands of SERVICE need of the scopes. -/
theorem scopeRules_serves : scopeRules.Serves where
  submitted _ h := h
  created _ _ := ⟨Nat.le_refl _, fun _ k => by cases k⟩
  amended _ _ _ he := he
  depth_zero := Nat.zero_le 3
  channel_powerOn _ _ := trivial
  channel_restarted _ := trivial
  depth_opened h := h
  op_opened h := absurd trivial h
  entry_opened h := Entry.scoped_mono (Nat.le_succ _) h
  request_opened h := Nat.le_succ_of_le h
  depth_dropped := by rintro d k ⟨rfl, -⟩ h; exact (Nat.sub_le k 1).trans h
  entry_dropped := by rintro d k e e' g ⟨rfl, -⟩ h he; exact Entry.scoped_dropped h he
  request_dropped := by
    rintro d k q ⟨rfl, -⟩ (h : q.issueDepth ≤ k) hk
    show q.issueDepth ≤ k - 1
    omega
  depth_kept := by rintro d k ⟨rfl, -⟩ h; exact (Nat.sub_le k 1).trans h
  entry_kept := by rintro d k e ⟨rfl, hd⟩ h; exact Entry.scoped_kept hd h
  request_kept := by
    rintro d k q ⟨rfl, -⟩ (h : q.issueDepth ≤ k)
    show (if q.issueDepth = k then _ else q).issueDepth ≤ k - 1
    split
    · exact Nat.le_refl _
    · omega

/-- Settles O56: the rules on scopes are kept by every step. -/
theorem stepKeepsScopes : Obligations.StepKeepsScopes := fun s t h e =>
  t.scopesHold_iff.mpr ((s.scopesHold_iff.mp h).of_step scopeRules_serves e)

end Sys2Proof.Machine
end

section
/-!
PROOFS. The free ends and counts (R22, R23), the power-on values (R24), and the part before it is ready (R64, R176).
-/
namespace Sys2Proof.Machine

-- One theorem after another: many at once would each hold a stack of their own.
set_option Elab.async false

/-! ### The free ends and the counts (R22, R23) -/

/-- A slot is EMPTY when it holds no entry. -/
theorem Cell.isEmpty_iff_state (c : Cell) : c.isEmpty = true ↔ c.state = .empty := by
  rw [Cell.isEmpty_iff]
  unfold Cell.state
  cases c.entry with
  | none => simp
  | some e =>
    have filled : e.state ≠ .empty := by unfold Entry.state; split <;> simp
    simp [filled]

/-- What is found first in a list that is in order is the first in that order of all that could be found. -/
theorem find?_eq_some_iff_of_pairwise {α : Type} {r : α → α → Prop}
    (asymmetric : ∀ a b, r a b → ¬r b a) (p : α → Bool) {l : List α} (hl : l.Pairwise r) (i : α) :
    l.find? p = some i ↔ i ∈ l ∧ p i = true ∧ ∀ j ∈ l, p j = true → i = j ∨ r i j := by
  induction l with
  | nil => simp
  | cons a l ih =>
    obtain ⟨ha, hl⟩ := List.pairwise_cons.mp hl
    cases hp : p a with
    | true =>
      rw [List.find?_cons_of_pos hp]
      constructor
      · rintro ⟨rfl⟩
        refine ⟨List.mem_cons_self, hp, fun j hj _ => ?_⟩
        exact (List.mem_cons.mp hj).imp Eq.symm (ha j)
      · rintro ⟨hi, -, first⟩
        rcases List.mem_cons.mp hi with rfl | hi
        · rfl
        · rcases first a List.mem_cons_self hp with rfl | h
          · rfl
          · exact absurd h (asymmetric a i (ha i hi))
    | false =>
      rw [List.find?_cons_of_neg (by simp [hp]), ih hl]
      constructor
      · rintro ⟨hi, hpi, first⟩
        refine ⟨List.mem_cons_of_mem a hi, hpi, fun j hj hpj => ?_⟩
        rcases List.mem_cons.mp hj with rfl | hj
        · rw [hp] at hpj; cases hpj
        · exact first j hj hpj
      · rintro ⟨hi, hpi, first⟩
        rcases List.mem_cons.mp hi with rfl | hi
        · rw [hp] at hpi; cases hpi
        · exact ⟨hi, hpi, fun j hj => first j (List.mem_cons_of_mem a hj)⟩

/-- Next free is the lowest EMPTY slot (R22). -/
theorem State.nextFree_eq_some_iff (s : State) (i : Slot) :
    s.nextFree = some i ↔ (s.cell i).state = .empty ∧ ∀ j, (s.cell j).state = .empty → i ≤ j := by
  unfold State.nextFree
  rw [find?_eq_some_iff_of_pairwise (fun _ _ => lt_asymm) _ slots_sorted i]
  simp only [mem_slots, true_and, true_implies, Cell.isEmpty_iff_state, le_iff_eq_or_lt]

/-- Last free is the highest EMPTY slot (R22). -/
theorem State.lastFree_eq_some_iff (s : State) (i : Slot) :
    s.lastFree = some i ↔ (s.cell i).state = .empty ∧ ∀ j, (s.cell j).state = .empty → j ≤ i := by
  unfold State.lastFree
  rw [find?_eq_some_iff_of_pairwise (r := fun a b => b < a) (fun _ _ => lt_asymm) _
    (List.pairwise_reverse.mpr slots_sorted) i]
  simp only [List.mem_reverse, mem_slots, true_and, true_implies, Cell.isEmpty_iff_state, le_iff_eq_or_lt,
    eq_comm (a := i)]

/-- Next free is absent when no slot is EMPTY (R22). -/
theorem State.nextFree_eq_none_iff (s : State) : s.nextFree = none ↔ ∀ i, (s.cell i).state ≠ .empty := by
  simp [State.nextFree, Cell.isEmpty_iff_state]

/-- Last free is absent when no slot is EMPTY (R22). -/
theorem State.lastFree_eq_none_iff (s : State) : s.lastFree = none ↔ ∀ i, (s.cell i).state ≠ .empty := by
  simp [State.lastFree, Cell.isEmpty_iff_state]

/-- The table's records are those of the slots in order. -/
theorem State.table_toList (s : State) : s.table.toList = slots.map s.cell := by
  unfold slots
  exact List.ext_getElem (by simp) (by simp [State.cell])

/-- The count of a state is over the slots in it (R23). -/
theorem State.countOf_eq (s : State) (st : SlotState) :
    s.countOf st = (slots.filter fun i => (s.cell i).state == st).length := by
  unfold State.countOf
  rw [State.table_toList, List.countP_map, List.countP_eq_length_filter]
  rfl

/-- Every record is counted in one of the four states. -/
theorem countP_states (l : List Cell) :
    (l.countP fun c => c.state == .empty) + (l.countP fun c => c.state == .live) +
      (l.countP fun c => c.state == .held) + (l.countP fun c => c.state == .anchor) = l.length := by
  induction l with
  | nil => rfl
  | cons c l ih => cases h : c.state <;> simp [h] <;> omega

/-- The four counts add up to the slots (R23). -/
theorem State.countOf_sum (s : State) :
    s.countOf .empty + s.countOf .live + s.countOf .held + s.countOf .anchor = 512 := by
  have total := countP_states s.table.toList
  rwa [Vector.length_toList] at total

/-- Settles O60: R22's free ends, R23's counts and R17's increment. -/
theorem freeEndsCountsAndGenerations : Obligations.FreeEndsCountsAndGenerations := by
  refine ⟨fun s => ⟨s.nextFree_eq_none_iff, s.lastFree_eq_none_iff, s.nextFree_eq_some_iff, s.lastFree_eq_some_iff,
    fun st => ?_, s.countOf_sum⟩, rfl, fun g hg => if_neg (by omega)⟩
  exact ⟨_, (slots_sorted.imp ne_of_lt).filter _, fun i => by simp, s.countOf_eq st⟩

/-! ### Power-on (R24) -/

/-- At power-on every slot is EMPTY with generation 0. -/
theorem State.cell_reset (i : Slot) : State.reset.cell i = { generation := 0, entry := none } := by
  simp [State.cell, State.reset, Cell.blank]

/-- At power-on the records of a state are all the slots, or none. -/
theorem State.countOf_reset (st : SlotState) : State.reset.countOf st = if st = .empty then 512 else 0 := by
  have powered (i : Slot) : ((State.reset.cell i).state == st) = decide (st = .empty) := by
    rw [State.cell_reset]; cases st <;> rfl
  rw [State.countOf_eq]
  simp only [powered]
  by_cases h : st = .empty
  · have length : slots.length = 512 := by unfold slots; exact List.length_finRange
    simp [h, length]
  · simp [h]

/-- Settles O4: the values are those of `State.reset`; the free ends and the counts are read off the blank table. -/
theorem powerOnValuesOfEveryBlock : Obligations.PowerOnValuesOfEveryBlock := by
  have empty (i : Slot) : (State.reset.cell i).state = .empty := by rw [State.cell_reset]; rfl
  have lowest : State.reset.nextFree = some 0 :=
    (State.nextFree_eq_some_iff _ _).mpr ⟨empty 0, fun j _ => Fin.zero_le j⟩
  have highest : State.reset.lastFree = some 511 :=
    (State.lastFree_eq_some_iff _ _).mpr ⟨empty 511, fun j _ => Fin.le_def.mpr (Nat.le_of_lt_succ j.isLt)⟩
  have counts := State.countOf_reset
  refine ⟨State.cell_reset, lowest, highest, counts _, counts _, counts _, counts _, rfl, ?profiles, rfl, rfl, rfl, rfl,
    ?zones, rfl, rfl, rfl, ?channels, rfl, rfl, rfl, rfl, rfl, rfl, rfl, ?ticks, rfl, rfl, rfl, ?causes, rfl⟩
  case profiles => decide
  case zones => decide
  case channels => decide
  case ticks => decide
  case causes => decide

/-! ### The lines and the part that is not ready (R64, R176) -/

/-- Every request message is taken by the one operation of taking a message (R168). -/
theorem exec_of_carriesMessage {c : Instr} (hc : carriesMessage c = true) (s : State) :
    ∃ f, exec c s = .next (s.catchUp.takeMessage f) := by
  cases c with
  | place | amend | retire | setState | pin | unpin | clearCounts | readEntry | seek | seekNext | setCursor
  | setProfile | setServiceMatch | stageProfile | setChannel | readChannel | setLearning | readDerivations
  | setClass | openScope | closeScope | readStatus | readCauses | clearCauses | setNoticeMask | restart
  | clearTable | malformed => exact ⟨_, rfl⟩
  | _ => cases hc

/-- Every reading word is taken by the one operation of taking a word (R64). -/
theorem exec_of_isReadingWord {c : Instr} (hc : isReadingWord c = true) (s : State) :
    ∃ f, exec c s = .next (s.catchUp.takeWord f) := by
  cases c with
  | openWord | zoneWord | anchorWord | closeWord | unknownKindWord => exact ⟨_, rfl⟩
  | _ => cases hc

/-- A message is ignored before the part is ready (R176). -/
theorem State.openMessage_of_not_ready {s : State} (h : s.lines.ready = false) (tail : List Byte)
    (f : State → State) : s.openMessage tail f = s.ignoredPeriod := by
  simp [State.openMessage, h]

/-- A period without a whole message is ignored before the part is ready (R176). -/
theorem exec_period_of_not_ready {c : Instr} (hp : isPeriod c = true) (hm : carriesMessage c = false) {s : State}
    (h : s.catchUp.lines.ready = false) : exec c s = .next s.catchUp.ignoredPeriod := by
  have ignored {t : State} : (if s.catchUp.lines.ready then t else s.catchUp.ignoredPeriod) = s.catchUp.ignoredPeriod :=
    if_neg (by simp [h])
  cases c with
  | fetch shown extra => exact congrArg _ ignored
  | fetchCutShort got => exact congrArg _ ignored
  | messageDropped shown code => exact congrArg _ ignored
  | messageCutShort code => exact congrArg _ (State.openMessage_of_not_ready h _ _)
  | selectAborted => rfl
  | malformed code => cases hm
  | _ => cases hp

/-- Settles O3: the line commands by their meanings; a part that is not ready passes over what takes a word, a message
or a period. -/
theorem linesReturnAndReadyThePart : Obligations.LinesReturnAndReadyThePart := by
  refine ⟨fun s => ⟨rfl, rfl, rfl, fun h => ?_, fun h => ?_⟩,
    fun c s hs hr => ⟨fun hc => ?_, fun hc => ?_, fun hp hm => ?_⟩⟩
  · exact congrArg _ (if_neg (by simp [h]))
  · exact congrArg _ (if_pos h)
  · obtain ⟨f, e⟩ := exec_of_isReadingWord hc s
    rw [e, State.catchUp_of_settled hs]
    exact congrArg _ (if_neg (by simp [hr]))
  · obtain ⟨f, e⟩ := exec_of_carriesMessage hc s
    rw [e, State.catchUp_of_settled hs]
    exact congrArg _ (State.openMessage_of_not_ready (s := { s with trailing := s.trailing.tail }) hr _ _)
  · have caught := State.catchUp_of_settled hs
    rw [exec_period_of_not_ready hp hm (by rw [caught]; exact hr), caught]
    rfl

end Sys2Proof.Machine
end

section
/-!
PROOFS. The Table Arbiter's circle (R44).
-/
namespace Sys2Proof.Machine

-- One theorem after another: many at once would each hold a stack of their own.
set_option Elab.async false

/-! ### The circle -/

/-- Every requester stands on the circle, wherever it begins (R44). -/
@[simp] theorem Requester.mem_circle (r start : Requester) : r ∈ start.circle := by
  cases start <;> cases r <;> simp [Requester.circle]

/-- The requester granted next is the first on the circle that has an operation waiting (R44). -/
theorem Arbiter.next_eq_some_iff (a : Arbiter) (r : Requester) :
    a.next = some r ↔
      ∃ before after, a.rotation.circle = before ++ r :: after ∧ a.waiting r = true ∧
        ∀ q ∈ before, ¬a.waiting q = true := by
  unfold Arbiter.next
  rw [List.find?_eq_some_iff_append]
  constructor
  · rintro ⟨waits, before, after, split, none_before⟩
    exact ⟨before, after, split, waits, fun q hq => by simpa using none_before q hq⟩
  · rintro ⟨before, after, split, waits, none_before⟩
    exact ⟨waits, before, after, split, fun q hq => by simpa using none_before q hq⟩

/-- None is granted when none waits (R44). -/
theorem Arbiter.next_eq_none_iff (a : Arbiter) : a.next = none ↔ ∀ r, ¬a.waiting r = true := by
  simp [Arbiter.next]

/-! ### Commands that need a grant -/

/-- A grant of SERVICE's operation changes nothing while SERVICE is not granted. -/
theorem exec_serviceGrant_of_none {c : Instr} (hc : isServiceGrant c = true) {s : State} (hs : s.settled = true)
    (h : s.serviceGrant = none) : exec c s = .next s := by
  cases c with
  | placeGrant | amendGrant | retireGrant | setStateGrant | pinGrant | unpinGrant | clearCountsGrant
  | readEntryGrant | seekGrant | seekNextGrant | dropWalk | keepWalk | restartWalk | clearTableWalk =>
    simp only [exec, execPlaceGrant, execAmendGrant, execRetireGrant, execSetStateGrant, execPinGrant, execUnpinGrant,
      execClearCountsGrant, execReadEntryGrant, execSeekGrant, execSeekNextGrant, execDropWalk, execKeepWalk,
      execRestartWalk, execClearTableWalk, State.catchUp_of_settled hs, h]
  | _ => cases hc

/-- The two commands that are grants of FRAME's operation change nothing while FRAME is not granted. -/
theorem exec_frameGrant_of_none {s : State} (hs : s.settled = true) (h : s.frameGrant = none) :
    exec .frameMatch s = .next s ∧ exec .anchorCheck s = .next s := by
  simp only [exec, execFrameMatch, execAnchorCheck, State.catchUp_of_settled hs, h, and_self]

/-- The two commands that are grants of DERIVE's operation change nothing while DERIVE is not granted. -/
theorem exec_deriveGrant_of_none {s : State} (hs : s.settled = true) (h : s.deriveGrant = none) :
    exec .search s = .next s ∧ exec .install s = .next s := by
  simp only [exec, execSearch, execInstall, State.catchUp_of_settled hs, h, and_self]

/-- A SWEEP STEP changes nothing while AGING is not granted. -/
theorem exec_sweepStep_of_none {s : State} (hs : s.settled = true) (h : s.agingGrant = none) :
    exec .sweepStep s = .next s := by
  simp only [exec, execSweepStep, State.catchUp_of_settled hs, h]

/-- The commands that need a grant (R44). -/
def grantCommands : List Instr :=
  [.frameMatch, .anchorCheck, .search, .install, .sweepStep, .placeGrant, .amendGrant, .retireGrant, .setStateGrant,
    .pinGrant, .unpinGrant, .clearCountsGrant, .readEntryGrant, .seekGrant, .seekNextGrant, .dropWalk, .keepWalk,
    .restartWalk, .clearTableWalk]

/-- With no requester granted, every command that needs a grant changes nothing (R44). -/
theorem exec_of_no_grant {s : State} (hs : s.settled = true) (h : s.arbiter.next = none) :
    ∀ c ∈ grantCommands, exec c s = .next s := by
  have frame : s.frameGrant = none := by simp [State.frameGrant, h]
  have service : s.serviceGrant = none := by simp [State.serviceGrant, h]
  have derive : s.deriveGrant = none := by simp [State.deriveGrant, h]
  have aging : s.agingGrant = none := by simp [State.agingGrant, h]
  intro c hc
  cases c with
  | frameMatch => exact (exec_frameGrant_of_none hs frame).1
  | anchorCheck => exact (exec_frameGrant_of_none hs frame).2
  | search => exact (exec_deriveGrant_of_none hs derive).1
  | install => exact (exec_deriveGrant_of_none hs derive).2
  | sweepStep => exact exec_sweepStep_of_none hs aging
  | placeGrant | amendGrant | retireGrant | setStateGrant | pinGrant | unpinGrant | clearCountsGrant
  | readEntryGrant | seekGrant | seekNextGrant | dropWalk | keepWalk | restartWalk | clearTableWalk =>
    exact exec_serviceGrant_of_none rfl hs service
  | _ => simp [grantCommands] at hc

/-- Settles O6: the requesters that wait are those of `Arbiter.waiting`, and the circle is `Requester.circle`. -/
theorem arbiterGrantsFirstAfterRotation : Obligations.ArbiterGrantsFirstAfterRotation := by
  intro s waits circle frame service derive aging hc
  have waits_iff (r : Requester) : waits r ↔ s.arbiter.waiting r = true := by
    cases r <;> simp [Arbiter.waiting, Option.isSome_iff_ne_none, *]
  have circle_eq : circle = s.arbiter.rotation.circle := by
    rw [hc]; cases s.arbiter.rotation <;> rfl
  simp only [waits_iff, circle_eq]
  exact ⟨s.arbiter.next_eq_some_iff, fun r => Arbiter.next_of_alone, s.arbiter.next_eq_none_iff, rfl, rfl, rfl, rfl,
    rfl, rfl, rfl, rfl, fun hs none_waits => exec_of_no_grant hs (s.arbiter.next_eq_none_iff.mpr none_waits)⟩

end Sys2Proof.Machine
end

section
/-!
PROOFS. The window compare, the FRAME match (R26, R30, R34 to R37) and the SERVICE match (R39).
-/
namespace Sys2Proof.Machine

-- One theorem after another: many at once would each hold a stack of their own.
set_option Elab.async false

/-! ### The window compare (R26) -/

/-- A difference is taken without wrap (R26). -/
theorem absDiff_eq_natAbs (a b : Nat) : absDiff a b = ((a : Int) - b).natAbs := by
  unfold absDiff; omega

/-- A difference is the same from both sides. -/
theorem absDiff_comm (a b : Nat) : absDiff a b = absDiff b a := by
  unfold absDiff; omega

/-- The window compare is a box in three differences, with the tags equal or the tag mode ANY (R26). -/
theorem Profile.admits_iff (p : Profile) (k e : Key) :
    p.admits k e = true ↔
      ((k.u : Int) - e.u).natAbs ≤ p.du ∧ ((k.v : Int) - e.v).natAbs ≤ p.dv ∧
        ((k.level : Int) - e.level).natAbs ≤ p.dl ∧ (k.tag = e.tag ∨ p.tagMode = .any) := by
  simp [Profile.admits, tagsAgree, absDiff_eq_natAbs, and_assoc]

/-- The window compare does not tell its two keys apart (R26). -/
theorem Profile.admits_comm (p : Profile) (k e : Key) : p.admits k e = p.admits e k := by
  simp only [Profile.admits, tagsAgree, absDiff_comm k.u, absDiff_comm k.v, absDiff_comm k.level, Bool.beq_comm]

/-! ### What matches, and in which tier (R29, R30) -/

/-- A LIVE slot stands in tier 0 unless its entry is DORMANT (R30). -/
theorem Cell.tierZero_iff_of_holdsLive {c : Cell} {e : Entry} {x : Illuminant} (h : c.holdsLive e x) :
    c.tierZero = true ↔ ¬∃ e x, c.holdsLive e x ∧ x.vigour = .dormant := by
  obtain ⟨entry, body⟩ := h
  have only : (∃ e x, c.holdsLive e x ∧ x.vigour = .dormant) ↔ x.vigour = .dormant := by
    refine ⟨?_, fun dormant => ⟨e, x, ⟨entry, body⟩, dormant⟩⟩
    rintro ⟨e', x', ⟨entry', body'⟩, dormant⟩
    cases entry.symm.trans entry'
    cases body.symm.trans body'
    exact dormant
  rw [only]
  simp [Cell.tierZero, Cell.live, entry, body]

/-- The head of the slots that satisfy `p` is the lowest of them (R2). -/
theorem head?_filter_slots_eq_some_iff (p : Slot → Bool) (i : Slot) :
    (slots.filter p).head? = some i ↔ p i = true ∧ ∀ j, p j = true → i ≤ j := by
  rw [List.head?_filter, find?_eq_some_iff_of_pairwise (fun _ _ => lt_asymm) p slots_sorted i]
  simp only [mem_slots, true_and, true_implies, le_iff_eq_or_lt]

/-- The head of the slots that satisfy `p` is absent when there is none. -/
theorem head?_filter_slots_eq_none_iff (p : Slot → Bool) :
    (slots.filter p).head? = none ↔ ∀ i, ¬p i = true := by
  simp [List.head?_filter]

/-! ### The OPEN match (R35) -/

/-- The order in which an OPEN match prefers slots (R30, R35): tier 0 before tier 1, and the lower slot before the
higher. -/
def preferred (dormant : Slot → Prop) (i j : Slot) : Prop :=
  (¬dormant i ∧ dormant j) ∨ ((dormant i ↔ dormant j) ∧ i < j)

/-- Of two slots only one is preferred. -/
theorem preferred_asymm {dormant : Slot → Prop} {i j : Slot} (h : preferred dormant i j) : ¬preferred dormant j i := by
  rintro (⟨hj, hi⟩ | ⟨same', lower'⟩) <;> rcases h with ⟨hi', hj'⟩ | ⟨same, lower⟩
  · exact hi' hi
  · exact hj (same.mp hi)
  · exact hi' (same'.mp hj')
  · exact lt_asymm lower lower'

section
variable {s : State} {k : Key} {fits dormant : Slot → Prop}

/-- An OPEN match misses when no slot matches (R35). -/
theorem State.openResult_eq_none_iff (hfits : ∀ i, fits i ↔ (s.cell i).fits s.frameProfile k = true) :
    s.openResult k = none ↔ ∀ i, ¬fits i := by
  have mem (j : Slot) : j ∈ s.frameMatches k ↔ fits j := (s.mem_frameMatches k j).trans (hfits j).symm
  unfold State.openResult
  split
  · next i hi => exact iff_of_false nofun fun none_fits => none_fits i ((mem i).mp (List.mem_of_find?_eq_some hi))
  · simp only [List.head?_eq_none_iff, List.eq_nil_iff_forall_not_mem, mem]

/-- The result of an OPEN match is preferred to every other slot that matches (R35). -/
theorem State.openResult_preferred (hfits : ∀ i, fits i ↔ (s.cell i).fits s.frameProfile k = true)
    (tier : ∀ i, fits i → ((s.cell i).tierZero = true ↔ ¬dormant i)) {i : Slot} (h : s.openResult k = some i) :
    fits i ∧ ∀ j, fits j → j ≠ i → preferred dormant i j := by
  have mem (j : Slot) : j ∈ s.frameMatches k ↔ fits j := (s.mem_frameMatches k j).trans (hfits j).symm
  unfold State.openResult at h
  split at h
  · next i' hi =>
    cases h
    obtain ⟨matched, zero, first⟩ :=
      (find?_eq_some_iff_of_pairwise (fun _ _ => lt_asymm) _ (slots_sorted.filter _) i).mp hi
    have hi := (mem i).mp matched
    have awake : ¬dormant i := (tier i hi).mp zero
    refine ⟨hi, fun j hj other => ?_⟩
    by_cases asleep : dormant j
    · exact .inl ⟨awake, asleep⟩
    · rcases first j ((mem j).mpr hj) ((tier j hj).mpr asleep) with same | lower
      · exact absurd same.symm other
      · exact .inr ⟨iff_of_false awake asleep, lower⟩
  · next none_zero =>
    have asleep (j : Slot) (hj : fits j) : dormant j := by
      by_contra awake
      exact List.find?_eq_none.mp none_zero j ((mem j).mpr hj) ((tier j hj).mpr awake)
    obtain ⟨matched, lowest⟩ := (head?_filter_slots_eq_some_iff _ i).mp h
    have hi := (hfits i).mpr matched
    exact ⟨hi, fun j hj other =>
      .inr ⟨iff_of_true (asleep i hi) (asleep j hj), lt_of_le_of_ne (lowest j ((hfits j).mp hj)) other.symm⟩⟩

/-- The result of an OPEN match is the matching slot that is preferred to every other (R35). -/
theorem State.openResult_eq_some_iff (hfits : ∀ i, fits i ↔ (s.cell i).fits s.frameProfile k = true)
    (tier : ∀ i, fits i → ((s.cell i).tierZero = true ↔ ¬dormant i)) (i : Slot) :
    s.openResult k = some i ↔ fits i ∧ ∀ j, fits j → j ≠ i → preferred dormant i j := by
  refine ⟨State.openResult_preferred hfits tier, fun ⟨hi, best⟩ => ?_⟩
  cases found : s.openResult k with
  | none => exact absurd hi ((State.openResult_eq_none_iff hfits).mp found i)
  | some j =>
    obtain ⟨hj, best'⟩ := State.openResult_preferred hfits tier found
    by_contra other
    have other : i ≠ j := fun same => other (same ▸ rfl)
    exact preferred_asymm (best j hj other.symm) (best' i hi other)

end

/-! ### HOLD and LOCKED (R36, R37) -/

/-- An incumbent that matches is the result in HOLD and in LOCKED mode (R36, R37). -/
theorem State.frameResult_of_fits {s : State} {k : Key} {i : Slot} (h : (s.cell i).fits s.frameProfile k = true) :
    s.frameResult k .hold (some i) = some i ∧ s.frameResult k .locked (some i) = some i := by
  simp [State.frameResult, State.incumbentResult, h]

/-- An incumbent that does not match leaves HOLD to the OPEN match and LOCKED to a miss (R36, R37). -/
theorem State.frameResult_of_not_fits {s : State} {k : Key} {i : Slot}
    (h : ¬(s.cell i).fits s.frameProfile k = true) :
    s.frameResult k .hold (some i) = s.openResult k ∧ s.frameResult k .locked (some i) = none := by
  simp [State.frameResult, State.incumbentResult, h]

/-- Settles O13: the OPEN result by its order of preference, HOLD and LOCKED by their incumbent. -/
theorem frameMatchResultByMode : Obligations.FrameMatchResultByMode := by
  refine ⟨fun p k e => ⟨p.admits_iff k e, p.admits_comm k e⟩, fun s k fits dormant hfits hdormant => ?_⟩
  have fits_iff (i : Slot) : fits i ↔ (s.cell i).fits s.frameProfile k = true := by
    rw [hfits, Cell.fits_iff]
    simp only [Cell.holdsLive, and_assoc]
  have tier (i : Slot) (hi : fits i) : (s.cell i).tierZero = true ↔ ¬dormant i := by
    obtain ⟨e, x, live, -⟩ := (hfits i).mp hi
    rw [Cell.tierZero_iff_of_holdsLive live, hdormant]
  refine ⟨fun _ => State.openResult_eq_none_iff fits_iff, fun _ => State.openResult_eq_some_iff fits_iff tier,
    fun i hi => State.frameResult_of_fits ((fits_iff i).mp hi),
    fun i hi => State.frameResult_of_not_fits (mt (fits_iff i).mpr hi), rfl, rfl,
    s.frameMatches k, s.nodup_frameMatches k, fun i => (s.mem_frameMatches k i).trans (fits_iff i).symm,
    fun _ _ => rfl⟩

/-! ### SEEK and SEEK NEXT (R39, R162, R163) -/

/-- What a SERVICE match admits: a state of the filter, and a key within the window (R39). -/
theorem Cell.served_iff (f : Filter) (p : Profile) (k : Key) (c : Cell) :
    c.served f p k = true ↔ ∃ e, c.entry = some e ∧ p.admits k e.key = true ∧ f.admits e.state = true := by
  unfold Cell.served
  cases c.entry with
  | none => simp
  | some e => simp [and_comm]

/-- A SERVICE match granted and answered (R39, R162): its context and its reply, from the lowest slot found and the
count. -/
theorem State.seekFrom_grantService (s : State) (k : Key) (start : Nat) {result : Option Slot} {count : Nat}
    (hr : (s.serviceMatches k start).head? = result) (hn : (s.serviceMatches k start).length = count) :
    s.grantService.seekFrom k start =
      { s with
        arbiter := { s.arbiter with rotation := .service, service := none }
        matching :=
          { s.matching with
            service :=
              { s.matching.service with
                lastMatch := result, matchCount := count, multiple := decide (2 ≤ count), lastSeekKey := some k } }
        link :=
          { s.link with
            state :=
              .replyReady
                (.done
                  (.found
                    (result.map fun i =>
                      { slot := i, state := (s.cell i).state, generation := (s.cell i).generation })
                    count (decide (2 ≤ count)))) } } := by
  subst hr hn
  rfl

/-- The grants of the two searches perform the SERVICE match of their operation (R39). -/
theorem exec_seek {s : State} {k : Key} {start : Nat} {c : Instr}
    (h : start = 0 ∧ c = .seekGrant ∧ s.grantsService (.seek k) ∨
      c = .seekNextGrant ∧ s.grantsService (.seekNext k start)) :
    exec c s = .next (s.grantService.seekFrom k start) := by
  rcases h with ⟨rfl, rfl, hs, grant⟩ | ⟨rfl, hs, grant⟩
  · simp only [exec, execSeekGrant, State.catchUp_of_settled hs, grant]
  · simp only [exec, execSeekNextGrant, State.catchUp_of_settled hs, grant]

/-- Settles O45: the slots found are those of `State.serviceMatches`, lowest first. -/
theorem seekFindsLowestAdmitted : Obligations.SeekFindsLowestAdmitted := by
  intro s k start c found granted hfound
  have found_iff (i : Slot) :
      found i ↔
        (decide (start ≤ i.val) && (s.cell i).served s.matching.service.filter s.serviceProfile k) = true := by
    rw [hfound, Bool.and_eq_true, decide_eq_true_eq, Cell.served_iff]
    refine and_congr_right fun _ => exists_congr fun e => and_congr_right fun _ => and_congr_right fun _ => ?_
    generalize e.state = st
    cases st <;> simp [Filter.admits]
  refine ⟨(s.serviceMatches k start).head?, (s.serviceMatches k start).length, ?_, fun i => ?_,
    ⟨s.serviceMatches k start, (slots_sorted.imp ne_of_lt).filter _,
      fun i => (List.mem_filter.trans (and_iff_right (mem_slots i))).trans (found_iff i).symm, rfl⟩, ?_⟩
  · simp only [found_iff]
    exact head?_filter_slots_eq_none_iff _
  · simp only [found_iff]
    exact head?_filter_slots_eq_some_iff _ i
  · rw [exec_seek granted, State.seekFrom_grantService s k start rfl rfl]

end Sys2Proof.Machine
end

section
/-!
PROOFS. A MATCH that finds a slot (R38, R71, R74).
-/
namespace Sys2Proof.Machine

-- One theorem after another: many at once would each hold a stack of their own.
set_option Elab.async false

/-- A LIVE slot read as one. -/
theorem Cell.live_of_holdsLive {c : Cell} {e : Entry} {x : Illuminant} (h : c.holdsLive e x) :
    c.live = some (e, x) := by
  obtain ⟨entry, body⟩ := h
  simp only [Cell.live, entry, body]

/-- A MATCH counts a switch when another slot was the winner (R71). -/
theorem Channel.switches_iff (i : Slot) (ch : Channel) :
    ch.switches i = true ↔ ∃ j, ch.winner = some j ∧ j ≠ i := by
  unfold Channel.switches
  cases ch.winner <;> simp

/-- The slot of a MATCH becomes the winner, and a switch is counted up to 15 (R71). -/
theorem Channel.takeWinner_eq (i : Slot) (ch : Channel) :
    ch.takeWinner i =
      { ch with
        winner := some i
        switchCount := if ch.switches i then min (ch.switchCount + 1) 15 else ch.switchCount } := by
  unfold Channel.takeWinner Channel.switches
  cases h : ch.winner with
  | none => rfl
  | some j =>
    by_cases same : j = i
    · subst same; simp [← h]
    · simp [same, satAdd]

/-- The flap lock is taken at a switch that reaches a flap limit above 0 on a FREE channel (R74). -/
theorem Channel.flaps_iff (switched : Bool) (ch : Channel) :
    ch.flaps switched = true ↔
      switched = true ∧ ch.config.flapLimit ≠ 0 ∧ ch.lock = .free ∧ ch.config.flapLimit ≤ ch.switchCount := by
  simp [Channel.flaps, and_assoc]

/-- A channel after a MATCH with a result: the lock, then the target (R71, R74, R75). -/
theorem Channel.settleMatch_eq (n : Nat) (g : Grade) (switched : Bool) (ch : Channel) :
    ch.settleMatch n g switched =
      Channel.retarget n g
        { ch with
          heldOver := false, lastOutcome := some .matched, pendingDerivation := none
          lock := if ch.flaps switched then .locked else ch.lock
          lockEnd := if ch.flaps switched then ch.windowEnd.getD ch.lockEnd else ch.lockEnd } := by
  have unchanged :
      Channel.flaps switched
        { ch with heldOver := false, lastOutcome := some .matched, pendingDerivation := none } =
        ch.flaps switched := rfl
  unfold Channel.settleMatch
  simp only [unchanged]
  cases ch.flaps switched <;> rfl

/-- A FRAME MATCH granted, whose result is slot `i`, goes on with the channel's part (R34, R60). -/
theorem exec_frameMatch_of_result {s : State} {c : Chan} {k : Key} {mode : MatchMode} {w : FrameWork}
    {waiting : Option ClosedFrame} {i : Slot} (granted : s.grantsFrame (.matching c k mode) w waiting)
    (result : s.frameResult k mode (s.channel c).winner = some i) :
    exec .frameMatch s =
      .next
        ((s.grantFrame.matchFound w.frame.number c i).continuePart w waiting c (w.frame.anchorsFor c)) := by
  obtain ⟨settled, grant, closing⟩ := granted
  have result' : (s.grantFrame.frameMatch k mode (s.grantFrame.channel c).winner).result = some i := result
  simp only [exec, execFrameMatch, State.catchUp_of_settled settled, grant, closing, State.matchChannel, result']

/-- A MATCH that finds a LIVE slot, after its grant: the entry, the channel and the cause FLAP are written, and the
channel's record is delivered (R38, R71, R74). -/
theorem State.matchFound_grantFrame (s : State) (n : Nat) (c : Chan) {i : Slot} {e : Entry} {x : Illuminant}
    (live : (s.cell i).holdsLive e x) {ch : Channel} {flap : Bool} (hch : (s.channel c).takeWinner i = ch)
    (hflap : ch.flaps ((s.channel c).switches i) = flap) :
    s.grantFrame.matchFound n c i =
      State.deliver
        { s with
          table :=
            s.table.set i
              { generation := (s.cell i).generation
                entry := some { e with body := .illuminant .live (x.matched ((s.channel c).winner != some i)) } }
          channels := s.channels.set c (ch.settleMatch n x.grade ((s.channel c).switches i))
          arbiter := s.arbiter.servedFrame
          notices := if flap then s.notices.raised .flap c.val else s.notices }
        n c .matched := by
  unfold State.matchFound
  simp only [State.cell_grantFrame, State.channel_grantFrame, Cell.live_of_holdsLive live, hch, hflap]
  cases flap <;> rfl

/-- Settles O14: the operation's writes by `State.matchFound_grantFrame`, the channel's by `Channel.settleMatch_eq`. -/
theorem frameMatchFindsEntry : Obligations.FrameMatchFindsEntry := by
  intro s c k mode w waiting i e x granted result live
  refine ⟨(s.channel c).switches i, ((s.channel c).takeWinner i).flaps ((s.channel c).switches i),
    (s.channel c).takeWinner i, Channel.switches_iff i _, Channel.takeWinner_eq i _, Channel.flaps_iff _ _, ?_⟩
  have matched :
      x.matched ((s.channel c).winner != some i) =
        { x with
          touched := true, idleTicks := 0, vigour := .active
          takeovers := if (s.channel c).winner = some i then x.takeovers else min (x.takeovers + 1) 65535 } := by
    by_cases incumbent : (s.channel c).winner = some i <;> simp [Illuminant.matched, satAdd, incumbent]
  rw [exec_frameMatch_of_result granted result, State.matchFound_grantFrame s _ c live rfl rfl, Channel.settleMatch_eq,
    matched]

end Sys2Proof.Machine
end

section
/-!
PROOFS. The requests that write settings (R28, R32, R33, R63, R109, R113, R164).
-/
namespace Sys2Proof.Machine

-- One theorem after another: many at once would each hold a stack of their own.
set_option Elab.async false

/-! ### Numbers out of range -/

/-- A profile number out of range names none. -/
theorem profileOf_of_le {n : Nat} (h : 2 ≤ n) : profileOf n = none := dif_neg (Nat.not_lt.mpr h)

/-- A class number out of range names none. -/
theorem classNumberOf_of_le {n : Nat} (h : 4 ≤ n) : classNumberOf n = none := dif_neg (Nat.not_lt.mpr h)

/-- A set that is no non-empty subset of the three states is no filter (R32). -/
theorem filterOf_of_out {m : Nat} (h : m = 0 ∨ 8 ≤ m) : filterOf m = none :=
  if_neg (by simp only [within, Bool.and_eq_true, decide_eq_true_eq]; omega)

/-- The filter of a non-empty subset of the three states (R32, R178). -/
theorem filterOf_of_within {m : Nat} (h1 : 1 ≤ m) (h8 : m < 8) :
    filterOf m = some { live := m.testBit 0, held := m.testBit 1, anchor := m.testBit 2 } :=
  if_pos (by simp only [within, Bool.and_eq_true, decide_eq_true_eq]; omega)

/-- A position beyond the three steps names none (R178). -/
theorem cursorStepOf_of_le {n : Nat} (h : 3 ≤ n) : cursorStepOf n = none :=
  match n, h with
  | _ + 3, _ => rfl

/-! ### The cursor's step (R33) -/

/-- UP from the highest slot is the lowest. -/
theorem Slot.add_one_eq (i : Slot) : i + 1 = if i = 511 then 0 else i + 1 := by
  split
  · next last => rw [last]; rfl
  · rfl

/-- DOWN from the lowest slot is the highest. -/
theorem Slot.sub_one_eq (i : Slot) : i - 1 = if i = 0 then 511 else i - 1 := by
  split
  · next first => rw [first]; rfl
  · rfl

/-- The cursor's step wraps round the table (R33). -/
theorem ServiceContext.stepCursor_eq (x : ServiceContext) :
    x.stepCursor =
      { x with
        cursor := match x.cursorStep with
          | .none => x.cursor
          | .up => if x.cursor = 511 then 0 else x.cursor + 1
          | .down => if x.cursor = 0 then 511 else x.cursor - 1 } := by
  rw [← Slot.add_one_eq, ← Slot.sub_one_eq]
  obtain ⟨_, _, _, step, _, _, _, _⟩ := x
  cases step <;> rfl

/-! ### Each request: refused, or its values written -/

section
variable {s : State}

/-- A SET PROFILE with a number or a value out of range (R28). -/
theorem State.setProfile_of_out {n : Nat} {f : ProfileFields} (h : 2 ≤ n ∨ ¬f.inRange) :
    s.setProfile n f = s.refuse .range := by
  unfold State.setProfile
  rcases h with number | values
  · rw [profileOf_of_le number]
  · have unfit : ¬profileFieldsOk f = true := mt (profileFieldsOk_iff f).mp values
    cases profileOf n with
    | none => rfl
    | some p => exact if_neg unfit

/-- A SET PROFILE in range (R28). -/
theorem State.setProfile_of_inRange (p : Fin 2) {f : ProfileFields} (h : f.inRange) :
    s.setProfile p.val f =
      State.done
        { s with
          matching :=
            { s.matching with profiles := s.matching.profiles.set p (s.matching.profiles[p].write f) } }
        .nothing := by
  unfold State.setProfile
  rw [profileOf_val]
  exact if_pos ((profileFieldsOk_iff f).mpr h)

/-- A SET SERVICE MATCH with a profile number or a filter out of range (R32). -/
theorem State.setServiceMatch_of_out {n m : Nat} (h : 2 ≤ n ∨ m = 0 ∨ 8 ≤ m) :
    s.setServiceMatch n m = s.refuse .range := by
  unfold State.setServiceMatch
  rcases h with number | filter
  · rw [profileOf_of_le number]
  · rw [filterOf_of_out filter]
    cases profileOf n <;> rfl

/-- A SET SERVICE MATCH in range (R32). -/
theorem State.setServiceMatch_of_within (p : Fin 2) {m : Nat} (h1 : 1 ≤ m) (h8 : m < 8) :
    s.setServiceMatch p.val m =
      (s.setService
        { s.matching.service.forget with
          selected := p
          filter := { live := m.testBit 0, held := m.testBit 1, anchor := m.testBit 2 } }).done .nothing := by
  unfold State.setServiceMatch
  rw [profileOf_val, filterOf_of_within h1 h8]

/-- A STAGE PROFILE with a number out of range (R63). -/
theorem State.stageProfile_of_le {n : Nat} (h : 2 ≤ n) : s.stageProfile n = s.refuse .range := by
  unfold State.stageProfile
  rw [profileOf_of_le h]

/-- A STAGE PROFILE in range (R63). -/
theorem State.stageProfile_val (p : Fin 2) :
    s.stageProfile p.val =
      State.done { s with matching := { s.matching with frame := { s.matching.frame with staged := some p } } }
        .nothing := by
  unfold State.stageProfile
  rw [profileOf_val]

/-- A SET CURSOR with a slot or a step out of range (R164). -/
theorem State.setCursor_of_out {slot step : Nat} (h : 512 ≤ slot ∨ 3 ≤ step) :
    s.setCursor slot step = s.refuse .range := by
  unfold State.setCursor
  rcases h with slot_out | step_out
  · exact dif_neg (Nat.not_lt.mpr slot_out)
  · rw [cursorStepOf_of_le step_out]
    split <;> rfl

/-- A SET CURSOR in range (R164). -/
theorem State.setCursor_of_step (i : Slot) {step : Nat} {st : CursorStep} (h : cursorStepOf step = some st) :
    s.setCursor i.val step =
      (s.setService { s.matching.service with cursor := i, cursorStep := st }).done .nothing := by
  unfold State.setCursor
  rw [dif_pos i.isLt, h]

/-- A SET LEARNING with a value out of range (R109). -/
theorem State.setLearning_of_out {r v : Option Nat} (h : ¬(carriedWithin 0 64 r ∧ carriedWithin 0 1 v)) :
    s.setLearning r v = s.refuse .range :=
  if_neg (by rwa [Bool.and_eq_true, carriedOk_within_iff, carriedOk_within_iff])

/-- A SET LEARNING in range (R109). -/
theorem State.setLearning_of_within {r v : Option Nat} (hr : carriedWithin 0 64 r) (hv : carriedWithin 0 1 v) :
    s.setLearning r v =
      (s.setDerive
        { s.derive with
          reserve := r.getD s.derive.reserve
          evictionPermitted := (v.map fun n => n == 1).getD s.derive.evictionPermitted }).done .nothing :=
  if_pos (by rw [Bool.and_eq_true, carriedOk_within_iff, carriedOk_within_iff]; exact ⟨hr, hv⟩)

/-- A SET CLASS with a number out of range (R113). -/
theorem State.setClass_of_le {n : Nat} {f : ClassFields} (h : 4 ≤ n) : s.setClass n f = s.refuse .range := by
  unfold State.setClass
  rw [classNumberOf_of_le h]

/-- A held descriptor's two conditions (R112). -/
theorem ClassDescriptor.sound_iff (d : ClassDescriptor) :
    d.sound = true ↔ d.idleAt ≤ d.dormantAt ∧ (d.retireAt = 0 ∨ d.dormantAt ≤ d.retireAt) := by
  simp [ClassDescriptor.sound]

/-- A SET CLASS with a value out of range, or one that would break the descriptor's conditions (R113). -/
theorem State.setClass_of_out (k : ClassNo) {f : ClassFields}
    (h : ¬(f.inRange ∧ ((s.aging.classes[k] : ClassDescriptor).write f).sound = true)) :
    s.setClass k.val f = s.refuse .range := by
  unfold State.setClass
  rw [classNumberOf_val]
  exact if_neg (by rwa [Bool.and_eq_true, classFieldsOk_iff])

/-- A SET CLASS in range that keeps the descriptor's conditions (R113). -/
theorem State.setClass_of_inRange (k : ClassNo) {f : ClassFields} (h : f.inRange)
    (sound : ((s.aging.classes[k] : ClassDescriptor).write f).sound = true) :
    s.setClass k.val f =
      (s.setAging
        { s.aging with classes := s.aging.classes.set k ((s.aging.classes[k] : ClassDescriptor).write f) }).done
        (.classDescriptor ((s.aging.classes[k] : ClassDescriptor).write f) s.aging.pendingTicks[k]) := by
  unfold State.setClass
  rw [classNumberOf_val]
  exact if_pos (by rw [Bool.and_eq_true, classFieldsOk_iff]; exact ⟨h, sound⟩)

end

/-- Settles O46: each request is taken, and is refused or writes its values as its own lemma says. -/
theorem settingsAreWrittenOrRefused : Obligations.SettingsAreWrittenOrRefused := by
  refine ⟨ServiceContext.stepCursor_eq, fun s listens => ?_⟩
  have taken (f : State → State) {t : State} (e : f s.taking = t) :
      (.next (s.catchUp.takeMessage f) : Result) = .next t :=
    congrArg _ ((State.takeMessage_of_listens listens f).trans e)
  refine ⟨fun n f h => taken _ (State.setProfile_of_out h), ?_, fun n m h => taken _ (State.setServiceMatch_of_out h),
    fun p m h1 h8 => taken _ (State.setServiceMatch_of_within p h1 h8), fun n h => taken _ (State.stageProfile_of_le h),
    fun p => taken _ (State.stageProfile_val p), fun slot step h => taken _ (State.setCursor_of_out h), ?_,
    fun r v h => taken _ (State.setLearning_of_out h), ?_, fun n f h => taken _ (State.setClass_of_le h), ?_⟩
  · rintro p f old h rfl
    refine taken _ ((State.setProfile_of_inRange p h).trans ?_)
    unfold Profile.write
    obtain _ | _ | n := f.tagMode <;> rfl
  · rintro i step st (⟨rfl, rfl⟩ | ⟨rfl, rfl⟩ | ⟨rfl, rfl⟩) <;> exact taken _ (State.setCursor_of_step i rfl)
  · intro r v hr hv
    refine taken _ ((State.setLearning_of_within hr hv).trans ?_)
    cases v <;> rfl
  · rintro k f d sound rfl hsound
    have sound_iff := hsound.trans (ClassDescriptor.sound_iff ((s.aging.classes[k] : ClassDescriptor).write f)).symm
    refine ⟨fun h => taken _ (State.setClass_of_out k fun ⟨values, kept⟩ => h ⟨values, sound_iff.mpr kept⟩),
      fun values kept => taken _ (State.setClass_of_inRange k values (sound_iff.mp kept))⟩

end Sys2Proof.Machine
end

section
/-!
PROOFS. The invariant of the derivation queue (R89, R90, R106) under each change of the queue and of the references to
it.
-/
namespace Sys2Proof.Machine

-- One theorem after another: many at once would each hold a stack of their own.
set_option Elab.async false

/-- What the invariant of the queue reads of a request: its channel and its number. -/
def Derivation.item (q : Derivation) : Chan × Nat := (q.channel, q.number)

/-- One request rewritten in neither its channel nor its number. -/
theorem updateRequest_items (n : Nat) {f : Derivation → Derivation} (hf : ∀ q, (f q).item = q.item)
    (l : List Derivation) : (updateRequest n f l).map Derivation.item = l.map Derivation.item := by
  simp only [updateRequest, List.map_map]
  refine List.map_congr_left fun q _ => ?_
  simp only [Function.comp]
  split
  · exact hf q
  · rfl

namespace State.derivationsHold

variable {s t : State}

/-- A queue that holds no two requests of one channel holds at most four (R89). -/
theorem length_le (h : s.derivationsHold) : s.derive.queue.length ≤ 4 := by
  obtain ⟨channels, -⟩ := h
  simpa using channels.length_le_card

/-- The requests' channels and numbers and the next number stand, and a pending derivation stands or is gone. -/
theorem of_items (h : s.derivationsHold)
    (items : t.derive.queue.map Derivation.item = s.derive.queue.map Derivation.item)
    (next : t.derive.nextNumber = s.derive.nextNumber)
    (pending : ∀ c, (t.channel c).pendingDerivation = none ∨
      (t.channel c).pendingDerivation = (s.channel c).pendingDerivation) : t.derivationsHold := by
  obtain ⟨channels, numbers, small, small_next, named⟩ := h
  have channels_eq : t.derive.queue.map (fun q => q.channel) = s.derive.queue.map fun q => q.channel := by
    simpa [Function.comp_def, Derivation.item] using congrArg (List.map Prod.fst) items
  have numbers_eq : t.derive.queue.map (fun q => q.number) = s.derive.queue.map fun q => q.number := by
    simpa [Function.comp_def, Derivation.item] using congrArg (List.map Prod.snd) items
  have same_numbers (n : Nat) : (∃ q ∈ t.derive.queue, q.number = n) ↔ ∃ q ∈ s.derive.queue, q.number = n := by
    rw [← List.mem_map, numbers_eq, List.mem_map]
  refine ⟨channels_eq ▸ channels, numbers_eq ▸ numbers, fun q hq => ?_, next ▸ small_next, fun c n hn => ?_⟩
  · obtain ⟨p, hp, e⟩ := (same_numbers q.number).mp ⟨q, hq, rfl⟩
    exact e ▸ small p hp
  · rcases pending c with gone | stands
    · rw [gone] at hn; cases hn
    · exact (same_numbers n).mpr (named c n (stands ▸ hn))

/-- One channel written, its pending derivation gone or as it stands. -/
theorem setChannel (h : s.derivationsHold) (c : Chan) {ch : Channel}
    (pending : ch.pendingDerivation = none ∨ ch.pendingDerivation = (s.channel c).pendingDerivation) :
    (s.setChannel c ch).derivationsHold :=
  h.of_items rfl rfl fun d => by
    rw [State.channel_setChannel]
    split
    · next e => exact e ▸ pending
    · exact .inr rfl

/-- Every channel rewritten, with pending derivations gone or as they stand. -/
theorem mapChannels (h : s.derivationsHold) {f : Channel → Channel}
    (pending : ∀ ch, (f ch).pendingDerivation = none ∨ (f ch).pendingDerivation = ch.pendingDerivation) :
    (s.mapChannels f).derivationsHold :=
  h.of_items rfl rfl fun c => by rw [State.channel_mapChannels]; exact pending _

/-- A channel refers to a queued request (R93). -/
theorem setPendingDerivation (h : s.derivationsHold) (c : Chan) {q : Derivation} (hq : q ∈ s.derive.queue) :
    (s.setPendingDerivation c q.number).derivationsHold := by
  obtain ⟨channels, numbers, small, small_next, named⟩ := h
  refine ⟨channels, numbers, small, small_next, fun d n hn => ?_⟩
  unfold State.setPendingDerivation at hn
  rw [State.channel_setChannel] at hn
  split at hn
  · exact ⟨q, hq, Option.some.inj hn⟩
  · exact named d n hn

/-- Requests leave the queue, and the references to them with them (R106). -/
theorem leaveQueue (h : s.derivationsHold) (p : Derivation → Bool) : (s.leaveQueue p).derivationsHold := by
  obtain ⟨channels, numbers, small, small_next, named⟩ := h
  have kept : (s.leaveQueue p).derive.queue.Sublist s.derive.queue := List.filter_sublist
  refine ⟨channels.sublist (kept.map _), numbers.sublist (kept.map _), fun q hq => small q (kept.subset hq), small_next,
    fun c n hn => ?_⟩
  rw [State.channel_leaveQueue] at hn
  unfold Channel.loseDerivation at hn
  split at hn
  · next m hm =>
    split at hn
    · cases hn
    · next stays =>
      obtain rfl : m = n := Option.some.inj (hm.symm.trans hn)
      obtain ⟨q, hq, rfl⟩ := named c m hm
      refine ⟨q, List.mem_filter.mpr ⟨hq, ?_⟩, rfl⟩
      by_contra gone
      exact stays (by
        simpa [goneNumbers] using ⟨q, ⟨hq, by simpa using gone⟩, rfl⟩)
  · next hm => rw [hm] at hn; cases hn

/-- A new request's number is one no queued request holds (R90): of five numbers on, a queue of four holds not all. -/
theorem newNumber_free (h : s.derivationsHold) :
    s.derive.newNumber ≤ 255 ∧ ∀ q ∈ s.derive.queue, q.number ≠ s.derive.newNumber := by
  have few := h.length_le
  obtain ⟨-, -, -, small_next, -⟩ := h
  obtain ⟨k, hk, number, free, taken⟩ :=
    pickNumber_spec (s.derive.queue.map fun q => q.number) 5 s.derive.nextNumber small_next
  have tried : k < 5 := by
    by_contra all
    have sub : (Finset.range 5).image (fun j => (s.derive.nextNumber + j) % 256) ⊆
        (s.derive.queue.map fun q => q.number).toFinset := by
      intro n hn
      obtain ⟨j, hj, rfl⟩ := Finset.mem_image.mp hn
      exact List.mem_toFinset.mpr (taken j (by have := Finset.mem_range.mp hj; omega))
    have five : ((Finset.range 5).image fun j => (s.derive.nextNumber + j) % 256).card = 5 :=
      Finset.card_image_of_injOn fun i hi j hj (e : (_ + i) % 256 = (_ + j) % 256) => by
        have := Finset.mem_range.mp hi
        have := Finset.mem_range.mp hj
        omega
    have := (Finset.card_le_card sub).trans (List.toFinset_card_le _)
    rw [five, List.length_map] at this
    omega
  refine ⟨?_, fun q hq e => free tried (List.mem_map.mpr ⟨q, hq, e⟩)⟩
  rw [DerivationUnit.newNumber, number]
  omega

/-- A request issued for a channel that has none queued, before the unit's choice (R94). -/
theorem append (h : s.derivationsHold) {c : Chan} (none_queued : ∀ q ∈ s.derive.queue, q.channel ≠ c)
    {q : Derivation} (hc : q.channel = c) (hn : q.number = s.derive.newNumber) :
    (State.setPendingDerivation
      (s.setDerive { s.derive with queue := s.derive.queue ++ [q], nextNumber := numberAfter q.number })
      c q.number).derivationsHold := by
  obtain ⟨in_range, free⟩ := h.newNumber_free
  obtain ⟨channels, numbers, small, -, named⟩ := h
  have queued : State.derivationsHold
      (s.setDerive { s.derive with queue := s.derive.queue ++ [q], nextNumber := numberAfter q.number }) := by
    refine ⟨?_, ?_, fun p hp => ?_, ?_, fun d n hd => ?_⟩
    · simpa [List.nodup_append, channels, hc] using none_queued
    · simpa [List.nodup_append, numbers, hn] using free
    · rcases List.mem_append.mp hp with hp | hp
      · exact small p hp
      · rw [List.mem_singleton.mp hp, hn]; exact in_range
    · show numberAfter q.number ≤ 255
      unfold numberAfter
      omega
    · obtain ⟨p, hp, e⟩ := named d n hd
      exact ⟨p, List.mem_append_left _ hp, e⟩
  exact queued.setPendingDerivation c (List.mem_append_right _ (List.mem_singleton_self q))

end State.derivationsHold

end Sys2Proof.Machine
end

section
/-!
PROOFS. Four invariants that pass through a step each by itself: the derivation queue's, the sweep's, the capacities'
and the open frame's (R50, R52, R54, R82, R89, R90, R98, R106, R112, R115, R117); here what the shared operations of the
part do to them.
-/
namespace Sys2Proof.Machine

-- One theorem after another: many at once would each hold a stack of their own.
set_option Elab.async false

/-! ### What the operations leave of a channel's pending derivation and of a descriptor -/

/-- The start of a channel's frame work writes the window end, the switch count and the lock alone (R69). -/
theorem Channel.beginFrame_eq (n : Nat) (ch : Channel) :
    ch.beginFrame n =
      { ch with
        windowEnd := (ch.beginFrame n).windowEnd
        switchCount := (ch.beginFrame n).switchCount
        lock := (ch.beginFrame n).lock } := by
  have rolled :
      ch.rollWindow n =
        { ch with windowEnd := (ch.rollWindow n).windowEnd, switchCount := (ch.rollWindow n).switchCount } := by
    unfold Channel.rollWindow
    split
    · rfl
    · split <;> rfl
  unfold Channel.beginFrame
  rw [rolled]
  unfold Channel.endLock
  split <;> rfl

/-- The start of a channel's frame work leaves its pending derivation (R69). -/
theorem Channel.pendingDerivation_beginFrame (n : Nat) (ch : Channel) :
    (ch.beginFrame n).pendingDerivation = ch.pendingDerivation := by
  rw [ch.beginFrame_eq n]

/-- A new target leaves a channel's pending derivation (R74, R75). -/
theorem Channel.pendingDerivation_retarget (n : Nat) (g : Grade) (ch : Channel) :
    (ch.retarget n g).pendingDerivation = ch.pendingDerivation := by
  unfold Channel.retarget
  split
  · rfl
  · split <;> rfl

/-- The glide leaves a channel's pending derivation (R76). -/
theorem Channel.pendingDerivation_advanceGlide (n : Nat) (ch : Channel) :
    (ch.advanceGlide n).pendingDerivation = ch.pendingDerivation := by
  unfold Channel.advanceGlide
  split
  · simp only
    split <;> rfl
  · rfl

/-- A descriptor whose written values are in range and whose conditions hold is sound (R112, R113). -/
theorem ClassDescriptor.holds.write {d : ClassDescriptor} {f : ClassFields} (h : d.holds) (fields : f.inRange)
    (sound : (d.write f).sound = true) : (d.write f).holds := by
  obtain ⟨prescale_low, prescale_high, idle, idle_dormant, dormant, retire, -⟩ := h
  obtain ⟨carried_prescale, carried_idle, carried_dormant, carried_retire⟩ := fields
  obtain ⟨order, retire_order⟩ := (ClassDescriptor.sound_iff _).mp sound
  have written {lo hi old : Nat} {v : Option Nat} (within : carriedWithin lo hi v) (held : lo ≤ old ∧ old ≤ hi) :
      lo ≤ v.getD old ∧ v.getD old ≤ hi := by
    cases v with
    | none => exact held
    | some n => exact within n rfl
  have p := written carried_prescale ⟨prescale_low, prescale_high⟩
  have i := written carried_idle ⟨idle, idle_dormant.trans dormant⟩
  have m := written carried_dormant ⟨idle.trans idle_dormant, dormant⟩
  have r := written carried_retire ⟨Nat.zero_le _, retire⟩
  exact ⟨p.1, p.2, i.1, order, m.2, r.2, retire_order⟩

/-! ### The four invariants from one state to another -/

/-- The four invariants of the queues, the sweep, the capacities and the open frame pass from one state to another, each
by itself. -/
structure State.Keeps (s t : State) : Prop where
  derivations : s.derivationsHold → t.derivationsHold
  sweep : s.sweepHolds → t.sweepHolds
  bounds : s.boundsHold → t.boundsHold
  openFrame : s.openFrameHolds → t.openFrameHolds

namespace State.Keeps

variable {s t u : State}

/-- Nothing changed. -/
theorem refl (s : State) : s.Keeps s := ⟨id, id, id, id⟩

/-- One change after another. -/
theorem trans (h : s.Keeps t) (k : t.Keeps u) : s.Keeps u :=
  ⟨k.derivations ∘ h.derivations, k.sweep ∘ h.sweep, k.bounds ∘ h.bounds, k.openFrame ∘ h.openFrame⟩

/-- An update that leaves what the invariants speak of, but for the parts it is given a reason for. -/
theorem update (h : s.Keeps t)
    (derivations : t.derivationsHold → u.derivationsHold := by exact id)
    (sweep : t.sweepHolds → u.sweepHolds := by exact id)
    (records : t.port.queue.length ≤ 8 → u.port.queue.length ≤ 8 := by exact id)
    (words : t.port.delivering.length ≤ 3 → u.port.delivering.length ≤ 3 := by exact id)
    (blends : t.derive.blends.length ≤ 4 → u.derive.blends.length ≤ 4 := by exact id)
    (anchors : t.path.anchors.length ≤ 4 → u.path.anchors.length ≤ 4 := by exact id)
    (ticks : (∀ k : ClassNo, t.aging.pendingTicks[k] ≤ 255) → ∀ k : ClassNo, u.aging.pendingTicks[k] ≤ 255 := by
      exact id)
    (classes : (∀ k : ClassNo, (t.aging.classes[k] : ClassDescriptor).holds) →
      ∀ k : ClassNo, (u.aging.classes[k] : ClassDescriptor).holds := by exact id)
    (openFrame : t.openFrameHolds → u.openFrameHolds := by exact id) : s.Keeps u where
  derivations := derivations ∘ h.derivations
  sweep := sweep ∘ h.sweep
  bounds hs := by
    obtain ⟨hr, hw, hb, ha, ht, hc⟩ := h.bounds hs
    exact ⟨records hr, words hw, blends hb, anchors ha, ticks ht, classes hc⟩
  openFrame := openFrame ∘ h.openFrame

/-! ### Channels -/

/-- One channel written, its pending derivation gone or as it stands. -/
theorem setChannel (h : s.Keeps t) (c : Chan) {ch : Channel}
    (pending : ch.pendingDerivation = none ∨ ch.pendingDerivation = (t.channel c).pendingDerivation) :
    s.Keeps (t.setChannel c ch) :=
  h.update (derivations := fun k => k.setChannel c pending)

/-- Winners cleared (R79). -/
theorem clearWinners (h : s.Keeps t) (gone : Slot → Bool) : s.Keeps (t.clearWinners gone) :=
  h.update (derivations := fun k => k.mapChannels fun ch => by
    unfold Channel.loseWinner
    split
    · split <;> exact .inr rfl
    · exact .inr rfl)

/-- An entry retired (R20). -/
theorem retire (h : s.Keeps t) (i : Slot) : s.Keeps (t.retire i) :=
  State.Keeps.clearWinners (h.update (u := t.setCell i (t.cell i).retired)) _

/-! ### The Derivation Unit -/

/-- One request rewritten in neither its channel nor its number. -/
theorem updateRequest (h : s.Keeps t) (n : Nat) {f : Derivation → Derivation} (hf : ∀ q, (f q).item = q.item) :
    s.Keeps (t.updateRequest n f) :=
  h.update (derivations := fun k => k.of_items (updateRequest_items n hf _) rfl fun _ => .inr rfl)

/-- The unit's choice (R95). -/
theorem chooseDerive (h : s.Keeps t) : s.Keeps t.chooseDerive := by
  rcases t.chooseDerive_cases with e | ⟨-, ⟨q, l, -, -, e⟩ | ⟨w, -, -, e⟩⟩ <;> rw [e]
  · exact h
  · exact h.update
  · exact (h.updateRequest w.number (f := fun r => { r with stage := .searching }) fun _ => rfl).update

/-- Requests leave the queue (R106). -/
theorem leaveQueue (h : s.Keeps t) (p : Derivation → Bool) : s.Keeps (t.leaveQueue p) :=
  h.update (derivations := fun k => k.leaveQueue p)
    (blends := fun k => by simpa [State.leaveQueue] using k)

/-- A request ends (R106, R107). -/
theorem endRequest (h : s.Keeps t) (q : Derivation) (e : Ending) : s.Keeps (t.endRequest q e) :=
  (h.leaveQueue fun r => r.number == q.number).update

/-- The queue emptied within a walk (R111). -/
theorem emptyQueue (h : s.Keeps t) : s.Keeps t.emptyQueue := (h.leaveQueue fun _ => true).update

/-- A miss considered for learning (R92 to R94). -/
theorem considerMiss (h : s.Keeps t) (c : Chan) (r : ChannelReading) (n : Nat) : s.Keeps (t.considerMiss c r n) := by
  rcases t.considerMiss_cases c r n with e | ⟨q, hq, e⟩ | e | ⟨none_queued, e⟩ <;> rw [e]
  · exact h
  · exact h.update (derivations := fun k => k.setPendingDerivation c hq)
  · exact h.update
  · refine State.Keeps.chooseDerive (h.update (derivations := fun k => ?_))
    exact k.append (q := t.newRequest c r n) none_queued rfl rfl

/-- A SEARCH performed (R96, R97). -/
theorem searchFor (h : s.Keeps t) (q : Derivation) : s.Keeps (t.searchFor q) := by
  refine chooseDerive ?_
  split
  · exact (h.endRequest q .noParents).update
  · exact (h.updateRequest q.number (f := fun r =>
      { r with stage := .blending, parents := some (t.parentsOf q.key (t.nearest q.key)) }) fun _ => rfl).update

/-- The blends that wait start while the blender has room (R98). -/
theorem startBlends (h : s.Keeps t) : s.Keeps t.startBlends :=
  h.update (blends := fun k => by
    simp only [State.startBlends, State.setDerive_derive, fillBlender_eq, List.length_append, List.length_take]
    omega)

/-- The oldest blend that waits starts if the blender has room (R98). -/
theorem startBlend (h : s.Keeps t) : s.Keeps (t.setDerive t.derive.startBlend) := by
  unfold DerivationUnit.startBlend
  split
  · exact h.update
  · split
    · next room =>
      exact h.update (blends := fun _ => by
        simp only [State.setDerive_derive, List.length_append, List.length_singleton]
        exact room)
    · exact h.update

/-- A blend completes (R98, R99). -/
theorem completeBlend (h : s.Keeps t) : s.Keeps t.completeBlend := by
  unfold State.completeBlend
  split
  · exact h
  · next b l hb =>
    have started : s.Keeps (t.setDerive { t.derive with blends := l }) :=
      h.update (blends := fun k => by
        rw [hb] at k
        exact (Nat.le_succ _).trans k)
    simp only
    split
    · exact started
    · exact chooseDerive (started.updateRequest _ fun _ => rfl)

/-- A learned entry placed (R105). -/
theorem placeLearned (h : s.Keeps t) (q : Derivation) (g : Grade) : s.Keeps (t.placeLearned q g) := by
  unfold State.placeLearned
  split
  · next i _ => exact (h.update (u := t.setCell i _)).endRequest q _
  · exact h

/-- The room an INSTALL finds, and the placement after it (R102 to R105). -/
theorem installRoom (h : s.Keeps t) (q : Derivation) (g : Grade) : s.Keeps (t.installRoom q g) := by
  unfold State.installRoom
  split
  · exact h.placeLearned q g
  · split
    · next i _ => exact placeLearned (h.retire i).update q g
    · exact (h.endRequest q .full).update

/-- An INSTALL performed (R100 to R105). -/
theorem installFor (h : s.Keeps t) (q : Derivation) (g : Grade) : s.Keeps (t.installFor q g) := by
  refine chooseDerive ?_
  split
  · unfold State.installStale
    split
    · exact (h.endRequest q .stale).update
    · exact h.updateRequest q.number fun _ => rfl
  · split
    · exact h.endRequest q .redundant
    · exact h.installRoom q g

/-! ### Frames -/

/-- A record handed over (R82, R83): a full queue gives one up. -/
theorem emit (h : s.Keeps t) (r : GradeRecord) : s.Keeps (t.emit r) := by
  unfold State.emit
  split
  · next room =>
    exact h.update (records := fun _ => by
      simp only [List.length_append, List.length_singleton]
      exact room)
  · next full =>
    refine h.update (records := fun k => ?_)
    have less : (supersede r.channel t.port.queue).length + 1 = t.port.queue.length := by
      have some_record : 0 < t.port.queue.length := by unfold Config.portDepth at full; omega
      unfold supersede
      split
      · next own =>
        obtain ⟨x, hx, hp⟩ := List.any_eq_true.mp own
        rw [List.length_eraseP_of_mem hx hp]
        omega
      · rw [List.length_tail]
        omega
    simpa [less] using k

/-- The end of a channel's work (R76, R81). -/
theorem deliver (h : s.Keeps t) (n : Nat) (c : Chan) (o : ChannelOutcome) : s.Keeps (t.deliver n c o) :=
  (h.setChannel c (.inr (Channel.pendingDerivation_advanceGlide n _))).emit _

/-- The work of a DARK channel (R73). -/
theorem workDark (h : s.Keeps t) (w : FrameWork) (c : Chan) : s.Keeps (t.workDark w c) :=
  have begun :
      ((t.channel c).beginFrame w.frame.number).settleDark.pendingDerivation = (t.channel c).pendingDerivation :=
    Channel.pendingDerivation_beginFrame w.frame.number (t.channel c)
  State.Keeps.deliver (h.setChannel c (.inr begun)) _ c .dark

/-- A MATCH submitted (R69, R70). -/
theorem beginMatch (h : s.Keeps t) (w : FrameWork) (waiting : Option ClosedFrame) (c : Chan) (r : ChannelReading) :
    s.Keeps (t.beginMatch w waiting c r) :=
  (h.setChannel c (.inr (Channel.pendingDerivation_beginFrame w.frame.number (t.channel c)))).update

/-- A frame's work complete (R61). -/
theorem completeFrame (h : s.Keeps t) (waiting : Option ClosedFrame) : s.Keeps (t.completeFrame waiting) := by
  cases waiting <;> exact h.update

/-- The parts of a frame (R60). -/
theorem runParts (h : s.Keeps t) (w : FrameWork) (waiting : Option ClosedFrame) (l : List Chan) :
    s.Keeps (t.runParts w waiting l) :=
  State.runParts_keeps (P := s.Keeps) w waiting (fun _ hu => hu.completeFrame waiting)
    (fun _ c r _ hu => hu.beginMatch w waiting c r) (fun _ c hu => hu.workDark w c) (fun _ _ _ _ hu => hu.update) l t h

/-- What follows in a channel's part (R60). -/
theorem continuePart (h : s.Keeps t) (w : FrameWork) (waiting : Option ClosedFrame) (c : Chan)
    (l : List AnchorReading) : s.Keeps (t.continuePart w waiting c l) := by
  unfold State.continuePart
  split
  · exact h.update
  · exact h.runParts w waiting _

/-- A handed-over frame starts (R58). -/
theorem startFrame (h : s.Keeps t) : s.Keeps t.startFrame := by
  unfold State.startFrame
  split
  · exact h.runParts _ none chans
  · exact h

/-- A MATCH with a result (R38, R71, R74, R75): the channel's pending derivation is gone. -/
theorem matchFound (h : s.Keeps t) (n : Nat) (c : Chan) (i : Slot) : s.Keeps (t.matchFound n c i) := by
  unfold State.matchFound
  split
  · next e x _ =>
    have settled (ch : Channel) (b : Bool) : (ch.settleMatch n x.grade b).pendingDerivation = none := by
      rw [Channel.settleMatch_eq, Channel.pendingDerivation_retarget]
    have written (cell : Cell) :
        s.Keeps
          ((t.setCell i cell).setChannel c
            (((t.channel c).takeWinner i).settleMatch n x.grade ((t.channel c).switches i))) :=
      State.Keeps.setChannel (h.update (u := t.setCell i cell)) c (.inl (settled _ _))
    refine State.Keeps.deliver ?_ n c .matched
    split
    · exact State.Keeps.update (written _)
    · exact written _
  · exact h

/-- A MATCH that misses (R72). -/
theorem matchMissed (h : s.Keeps t) (n : Nat) (c : Chan) (input : ChannelInput) :
    s.Keeps (t.matchMissed n c input) := by
  have missed : s.Keeps (t.setChannel c (t.channel c).settleMiss) := h.setChannel c (.inr rfl)
  refine State.Keeps.deliver ?_ n c .miss
  split
  · exact missed.considerMiss c _ n
  · exact missed

/-- A channel's MATCH performed and settled (R34). -/
theorem matchChannel (h : s.Keeps t) (w : FrameWork) (c : Chan) (k : Key) (mode : MatchMode) :
    s.Keeps (t.matchChannel w c k mode) := by
  unfold State.matchChannel
  split
  · exact h.matchFound _ c _
  · exact h.matchMissed _ c _

/-- Doubt charged against a slot (R133). -/
theorem chargeDoubt (h : s.Keeps t) (w : Slot) : s.Keeps (t.chargeDoubt w) := by
  unfold State.chargeDoubt
  split
  · exact h
  · simp only
    split
    · exact (State.Keeps.clearWinners (h.update (u := t.setCell w _)) _).update
    · exact h.update

/-- A check of an anchor reading (R126 to R133). -/
theorem checkAnchor (h : s.Keeps t) (r : AnchorReading) (tag : Nat) (inSet : Bool) :
    s.Keeps (t.checkAnchor r tag inSet) := by
  have written (e : Entry) (a : AnchorBody) (streak : Nat) (o : AnchorOutcome) :
      s.Keeps (t.writeAnchor r.slot e a streak o) := h.update
  unfold State.checkAnchor
  split
  · next e a _ =>
    split
    · split
      · exact written _ _ _ _
      split
      · exact written _ _ _ _
      split
      · exact written _ _ _ _
      unfold State.failAnchor
      split
      · have drifted := (written e a 0 .fail).update (u := (t.writeAnchor r.slot e a 0 .fail).raise .drift r.slot.val)
        simp only
        split
        · exact drifted.chargeDoubt _
        · exact drifted
      · exact written _ _ _ _
    · exact h.update
  · exact h.update

/-! ### Aging -/

/-- A sweep starts (R116): its first step is submitted, and the pending ticks return to 0. -/
theorem startSweep (h : s.Keeps t) : s.Keeps t.startSweep := by
  unfold State.startSweep
  split
  · exact h.update (sweep := fun _ => rfl) (ticks := fun _ k => by simp)
  · exact h

/-- A SWEEP STEP performed at its grant (R117): the next step is submitted, or the sweep ends. -/
theorem sweepBlock (h : s.Keeps t) (w : Sweep) (b : Block) : s.Keeps (t.grantAging.sweepBlock w b) := by
  unfold State.sweepBlock State.afterStep
  split <;> exact h.update (sweep := fun _ => rfl)

/-- Accepted frame numbers pass ticks on, saturating at 255 (R114, R115). -/
theorem passTicks (h : s.Keeps t) (n : Nat) : s.Keeps (t.passTicks n) := by
  unfold State.passTicks
  split
  · exact h.update (ticks := fun _ k => by
      simp only [State.setAging_aging, AgingUnit.addTicks, Vec.getElem_mapIdx]
      exact Nat.min_le_right _ _)
  · exact h

/-- A class descriptor written, when its values are in range and its conditions hold (R112, R113). -/
theorem setClass (h : s.Keeps t) (cls : Nat) (f : ClassFields) : s.Keeps (t.setClass cls f) := by
  unfold State.setClass
  split
  · next k _ =>
    simp only
    split
    · next ok =>
      rw [Bool.and_eq_true, classFieldsOk_iff] at ok
      obtain ⟨fields, sound⟩ := ok
      refine h.update (classes := fun held j => ?_)
      by_cases same : j = k
      · subst same
        simpa [State.done] using (held j).write fields sound
      · have other : k.val ≠ j.val := fun e => same (Fin.ext e.symm)
        simpa [State.done, Vector.getElem_set_ne, other] using held j
    · exact h.update
  · exact h.update

end State.Keeps

end Sys2Proof.Machine
end

section
/-!
PROOFS. The four invariants of the queues, the sweep, the capacities and the open frame pass through every command.
-/
namespace Sys2Proof.Machine

-- One theorem after another: many at once would each hold a stack of their own.
set_option Elab.async false

namespace State.Keeps

variable {s t u : State}

/-! ### The link, and what comes about at once -/

/-- A period with a message (R165, R166, R176). -/
theorem openMessage (h : s.Keeps t) (tail : List Byte) {f : State → State}
    (hf : ∀ u : State, s.Keeps u → s.Keeps (f u)) : s.Keeps (t.openMessage tail f) := by
  unfold State.openMessage
  split
  · split
    · exact hf _ h.update
    · exact h.update
    · exact h.update
  · exact h.update

/-- A message taken (R168). -/
theorem takeMessage (h : s.Keeps t) {f : State → State} (hf : ∀ u : State, s.Keeps u → s.Keeps (f u)) :
    s.Keeps (t.takeMessage f) :=
  openMessage (h.update (u := { t with trailing := t.trailing.tail })) _ hf

/-- A reading word taken (R64). -/
theorem takeWord (h : s.Keeps t) {f : State → State} (hf : s.Keeps (f t)) : s.Keeps (t.takeWord f) := by
  unfold State.takeWord
  split
  · exact hf
  · exact h

/-- A request checked, and submitted or refused (R151). -/
theorem submitChecked {α : Type} (h : s.Keeps t) (op : α → ServiceOp) (check : Except Reason α) :
    s.Keeps (t.submitChecked op check) := by
  cases check <;> exact h.update

/-- A SET CHANNEL performed with its reply (R85): a disable makes the pending derivation absent. -/
theorem writeChannel (h : s.Keeps t) (c : Chan) (f : ChannelFields) : s.Keeps (t.writeChannel c f) := by
  have written : ((t.channel c).write f).pendingDerivation = none ∨
      ((t.channel c).write f).pendingDerivation = (t.channel c).pendingDerivation := by
    unfold Channel.write
    simp only
    split
    · exact .inl rfl
    · exact .inr rfl
  exact (h.setChannel c written).update

/-- A waiting SET CHANNEL that is due (R86). -/
theorem performChannel (h : s.Keeps t) : s.Keeps t.performChannel := by
  unfold State.performChannel
  split
  · split
    · exact h
    · exact h.writeChannel _ _
  · exact h

/-- The events that come about at once (log entry 3). -/
theorem catchUp (h : s.Keeps t) : s.Keeps t.catchUp :=
  State.catchUp_keeps (P := s.Keeps) (fun _ => performChannel) (fun _ => startFrame) (fun _ => startBlends)
    (fun _ => startSweep) t h

/-! ### Reading words -/

/-- An open word judged (R49 to R51): the frame it opens has the number and the tag that are recorded. -/
theorem openFrame_word (h : s.Keeps t) (n tag : Nat) : s.Keeps (t.openFrame n tag) := by
  have refused (cause : Cause) : s.Keeps (t.refuseFrame cause n) := h.update (openFrame := fun _ f k => by cases k)
  unfold State.openFrame
  split
  · exact refused _
  split
  · exact refused _
  · refine (h.passTicks n).update (u := t.acceptFrame n tag) (anchors := fun _ => Nat.zero_le 4)
      (openFrame := fun _ f k => ?_)
    obtain rfl := Receiving.opened.inj k
    exact ⟨rfl, rfl⟩

/-- A ZONE word (R53). -/
theorem bufferZone (h : s.Keeps t) (z : Zone) (r : ZoneReading) : s.Keeps (t.bufferZone z r) := by
  unfold State.bufferZone
  split
  · exact h.update
  · exact h.update
  · exact h

/-- An ANCHOR word (R54): the list holds at most four. -/
theorem bufferAnchor (h : s.Keeps t) (r : AnchorReading) : s.Keeps (t.bufferAnchor r) := by
  unfold State.bufferAnchor
  split
  · exact h.update
  · split
    · next room =>
      exact h.update (anchors := fun _ => by
        simp only [State.setPath_path, List.length_append, List.length_singleton]
        exact room)
    · exact h.update
  · exact h

/-- A CLOSE word (R55): no frame is open after it. -/
theorem closeFrame (h : s.Keeps t) : s.Keeps t.closeFrame := by
  unfold State.closeFrame
  split
  · exact h.update
  · exact h.update (openFrame := fun _ f k => by cases k)
  · exact h.update (openFrame := fun _ f k => by cases k)

/-! ### Requests answered when they are taken -/

theorem setCursor (h : s.Keeps t) (slot step : Nat) : s.Keeps (t.setCursor slot step) := by
  unfold State.setCursor
  split
  · split <;> exact h.update
  · exact h.update

theorem setProfile (h : s.Keeps t) (profile : Nat) (f : ProfileFields) : s.Keeps (t.setProfile profile f) := by
  unfold State.setProfile
  split
  · split <;> exact h.update
  · exact h.update

theorem setServiceMatch (h : s.Keeps t) (profile filter : Nat) : s.Keeps (t.setServiceMatch profile filter) := by
  unfold State.setServiceMatch
  split <;> exact h.update

theorem stageProfile (h : s.Keeps t) (profile : Nat) : s.Keeps (t.stageProfile profile) := by
  unfold State.stageProfile
  split <;> exact h.update

theorem takeSetChannel (h : s.Keeps t) (channel : Nat) (f : ChannelFields) :
    s.Keeps (t.takeSetChannel channel f) := by
  unfold State.takeSetChannel
  split
  · split
    · split
      · exact h.update
      · exact h.writeChannel _ f
    · exact h.update
  · exact h.update

theorem readChannel (h : s.Keeps t) (channel : Nat) : s.Keeps (t.readChannel channel) := by
  unfold State.readChannel
  split <;> exact h.update

theorem setLearning (h : s.Keeps t) (reserve eviction : Option Nat) : s.Keeps (t.setLearning reserve eviction) := by
  unfold State.setLearning
  split <;> exact h.update

theorem openScope (h : s.Keeps t) : s.Keeps t.openScope := by
  unfold State.openScope
  split <;> exact h.update

theorem takeCloseScope (h : s.Keeps t) (mode : Nat) : s.Keeps (t.takeCloseScope mode) := by
  unfold State.takeCloseScope
  split
  · exact h.update
  split <;> exact h.update

theorem clearCauses (h : s.Keeps t) (causes : Nat) : s.Keeps (t.clearCauses causes) := by
  unfold State.clearCauses
  split <;> exact h.update

theorem setNoticeMask (h : s.Keeps t) (causes : Nat) : s.Keeps (t.setNoticeMask causes) := by
  unfold State.setNoticeMask
  split <;> exact h.update

/-! ### SERVICE's grants -/

/-- A single-slot operation at its grant (R151 to R153). -/
theorem atSlot (h : s.Keeps t) (target : Target) {act : State → Slot → State × Reply}
    (hact : ∀ (u : State) (i : Slot), s.Keeps u → s.Keeps (act u i).1) :
    s.Keeps (t.grantService.atSlot target act) := by
  have granted : s.Keeps t.grantService := h.update
  have moved (u : State) (hu : s.Keeps u) (r : Reply) : s.Keeps ((u.moveCursor target.viaCursor).reply r) := by
    unfold State.moveCursor
    split <;> exact hu.update
  refine moved _ ?_ _
  split
  · exact hact _ _ granted
  · exact granted

/-- An entry changed after the owned-depth test (R142, R143). -/
theorem amendEntry (h : s.Keeps t) {i : Slot} {e : Entry} {bump : Bool} {f : Entry → Entry}
    (hu : t.amendEntry i e bump f = some u) : s.Keeps u := by
  unfold State.amendEntry at hu
  split at hu
  · cases hu; exact h.update
  · cases hu

/-- A PLACE at its slot (R155). -/
theorem placeAt (h : s.Keeps t) (n : NewEntry) (i : Slot) : s.Keeps (State.placeAt n t i).1 := by
  have created (v : State) (hv : s.Keeps v) : s.Keeps (v.create n i).1 := hv.update
  unfold State.placeAt
  split
  · exact h
  split
  · exact h
  split
  · exact created _ h
  · exact created _ (h.retire i)

/-- An AMEND at its slot (R156). -/
theorem amendAt (h : s.Keeps t) (c : Change) (i : Slot) : s.Keeps (State.amendAt c t i).1 := by
  unfold State.amendAt
  split
  · exact h
  split
  · exact h
  split
  · exact h
  split
  · next hu => exact h.amendEntry hu
  · exact h

/-- A SET STATE at its slot (R157). -/
theorem setStateAt (h : s.Keeps t) (st : LightState) (i : Slot) : s.Keeps (State.setStateAt st t i).1 := by
  unfold State.setStateAt
  split
  · exact h
  split
  · exact h
  split
  · exact h
  split
  · next hu =>
    have moved := h.amendEntry hu
    simp only
    split
    · exact moved.clearWinners _
    · exact moved
  · exact h

/-- A PIN or UNPIN at its slot (R158). -/
theorem setPinAt (h : s.Keeps t) (pin : Bool) (i : Slot) : s.Keeps (State.setPinAt pin t i).1 := by
  unfold State.setPinAt
  split
  · exact h
  split
  · next hu => exact h.amendEntry hu
  · exact h

/-- A CLEAR COUNTS at its slot (R159). -/
theorem clearCountsAt (h : s.Keeps t) (i : Slot) : s.Keeps (State.clearCountsAt t i).1 := by
  unfold State.clearCountsAt
  split
  · exact h
  · exact h.update

/-- A RETIRE at its slot (R160). -/
theorem retireAt (h : s.Keeps t) (i : Slot) : s.Keeps (State.retireAt t i).1 := by
  unfold State.retireAt
  split
  · exact h
  · exact h.retire i

/-- The table part of a DROP (R144 to R146). -/
theorem dropTable (h : s.Keeps t) (d : Nat) : s.Keeps (t.dropTable d) :=
  State.Keeps.clearWinners (h.update (u := t.mapCells fun _ c => c.dropped d)) _

/-- The drops of RESTART (R149). -/
theorem dropAll (d : Nat) : ∀ t : State, s.Keeps t → s.Keeps (t.dropAll d) := by
  induction d with
  | zero => exact fun _ h => h
  | succ d ih => exact fun _ h => ih _ (h.dropTable (d + 1))

/-- A DROP (R144 to R146). -/
theorem dropScope (h : s.Keeps t) (d : Nat) : s.Keeps (t.dropScope d) :=
  ((h.dropTable d).leaveQueue fun q => q.issueDepth == d).chooseDerive.update

/-- A KEEP (R147): the issue depths alone are written in the queue. -/
theorem keepScope (h : s.Keeps t) (d : Nat) : s.Keeps (t.keepScope d) := by
  have items : (t.keepScope d).derive.queue.map Derivation.item = t.derive.queue.map Derivation.item := by
    show (t.derive.queue.map fun q => if q.issueDepth = d then { q with issueDepth := d - 1 } else q).map _ = _
    rw [List.map_map]
    refine List.map_congr_left fun q _ => ?_
    simp only [Function.comp]
    split <;> rfl
  exact h.update (derivations := fun k => k.of_items items rfl fun _ => .inr rfl)

/-- RESTART (R174): the queue, the sweep, the buffer and the Grade Port's queue are empty after it. -/
theorem restartAll (h : s.Keeps t) : s.Keeps t.restartAll := by
  have dropped : s.Keeps (t.dropAll t.depth).emptyQueue := (dropAll t.depth t h).emptyQueue
  refine dropped.update (derivations := fun k => ?_) (sweep := fun _ => rfl) (records := fun _ => Nat.zero_le 8)
    (anchors := fun _ => Nat.zero_le 4) (ticks := fun _ k => ?_) (openFrame := fun _ f k => by cases k)
  · exact k.of_items rfl rfl fun c => .inl (by rw [State.channel_restartAll]; rfl)
  · simp [State.restartAll, AgingUnit.restarted]

/-- CLEAR TABLE (R175). -/
theorem clearAll (h : s.Keeps t) : s.Keeps t.clearAll :=
  (State.Keeps.clearWinners (h.update (u := t.mapCells fun _ c => c.wiped)) _).emptyQueue.update

/-! ### The other commands -/

/-- The power-on values meet the four invariants (R24). -/
theorem atPowerOn (s t : State) (l : Lines) : s.Keeps (t.atPowerOn l) where
  derivations _ := by
    refine ⟨List.nodup_nil, List.nodup_nil, fun q hq => (by cases hq), Nat.zero_le _, fun c n hn => ?_⟩
    match c with
    | 0 | 1 | 2 | 3 => cases hn
  sweep _ := rfl
  bounds _ := by
    refine ⟨Nat.zero_le _, Nat.zero_le _, Nat.zero_le _, Nat.zero_le _, fun k => ?_, fun k => ?_⟩
    · match k with
      | 0 | 1 | 2 | 3 => exact Nat.zero_le _
    · match k with
      | 0 | 1 | 2 | 3 => simp [State.atPowerOn, State.reset, ClassDescriptor.holds]
  openFrame _ f k := by cases k

/-- A pull begins (R82): the oldest record leaves the queue, and at most three words are still to come. -/
theorem pull (h : s.Keeps t) : s.Keeps { t with port := t.port.pull } :=
  h.update (records := fun k => (List.tail_sublist _).length_le.trans k) (words := fun _ => t.port.delivering_pull)

/-- A word of the pull in progress is delivered (R82). -/
theorem deliverWord (h : s.Keeps t) : s.Keeps t.deliverWord := by
  obtain ⟨queue, fewer, -⟩ := t.port.advance_bounds
  exact h.update (records := fun k => by rw [State.deliverWord_port, queue]; exact k) (words := fun k => fewer.trans k)

variable {c : Instr}

/-- A reading word keeps the invariants. -/
theorem of_exec_word (hc : isReadingWord c = true) (e : exec c s = .next t) : s.Keeps t := by
  have u := (State.Keeps.refl s).catchUp
  cases c with
  | openWord number tag => cases e; exact u.takeWord (u.openFrame_word _ _)
  | zoneWord zone a b level confidence => cases e; exact u.takeWord (u.bufferZone _ _)
  | anchorWord slot channel r g b => cases e; exact u.takeWord (u.bufferAnchor _)
  | closeWord => cases e; exact u.takeWord u.closeFrame
  | unknownKindWord kind => cases e; exact u.takeWord u.update
  | _ => cases hc

/-- A select period that carries no request taken keeps the invariants. -/
theorem of_exec_period (hc : isPeriod c = true) (e : exec c s = .next t) : s.Keeps t := by
  have u := (State.Keeps.refl s).catchUp
  cases c with
  | fetch shown extra =>
    cases e
    split
    · split <;> exact u.update
    · exact u.update
  | fetchCutShort got =>
    cases e
    split
    · split
      · split <;> exact u.update
      · exact u.update
    · exact u.update
  | messageDropped shown code =>
    cases e
    split <;> exact u.update
  | messageCutShort code => cases e; exact u.openMessage _ fun _ hv => hv.update
  | selectAborted => cases e; exact u.update
  | malformed code => cases e; exact u.takeMessage fun _ hv => hv.update
  | _ => cases hc

/-- A request message keeps the invariants. -/
theorem of_exec_request (hc : isRequest c = true) (e : exec c s = .next t) : s.Keeps t := by
  have u := (State.Keeps.refl s).catchUp
  cases c with
  | place | amend | retire | setState | pin | unpin | clearCounts | readEntry =>
    cases e; exact u.takeMessage fun _ hv => hv.submitChecked _ _
  | seek | seekNext =>
    cases e
    refine u.takeMessage fun v hv => ?_
    split <;> exact hv.update
  | setCursor slot step => cases e; exact u.takeMessage fun _ hv => hv.setCursor _ _
  | setProfile profile f => cases e; exact u.takeMessage fun _ hv => hv.setProfile _ _
  | setServiceMatch profile filter => cases e; exact u.takeMessage fun _ hv => hv.setServiceMatch _ _
  | stageProfile profile => cases e; exact u.takeMessage fun _ hv => hv.stageProfile _
  | setChannel channel f => cases e; exact u.takeMessage fun _ hv => hv.takeSetChannel _ _
  | readChannel channel => cases e; exact u.takeMessage fun _ hv => hv.readChannel _
  | setLearning reserve eviction => cases e; exact u.takeMessage fun _ hv => hv.setLearning _ _
  | setClass cls f => cases e; exact u.takeMessage fun _ hv => hv.setClass _ _
  | openScope => cases e; exact u.takeMessage fun _ hv => hv.openScope
  | closeScope mode => cases e; exact u.takeMessage fun _ hv => hv.takeCloseScope _
  | clearCauses causes => cases e; exact u.takeMessage fun _ hv => hv.clearCauses _
  | setNoticeMask causes => cases e; exact u.takeMessage fun _ hv => hv.setNoticeMask _
  | readDerivations | readStatus | readCauses | restart | clearTable =>
    cases e; exact u.takeMessage fun _ hv => hv.update
  | _ => cases hc

/-- A grant of SERVICE's operation keeps the invariants. -/
theorem of_exec_serviceGrant (hc : isServiceGrant c = true) (e : exec c s = .next t) : s.Keeps t := by
  have u := (State.Keeps.refl s).catchUp
  have granted : s.Keeps s.catchUp.grantService := u.update
  cases c with
  | placeGrant =>
    cases e
    split
    · exact u.atSlot _ fun _ i hv => hv.placeAt _ i
    · exact u
  | amendGrant =>
    cases e
    split
    · exact u.atSlot _ fun _ i hv => hv.amendAt _ i
    · exact u
  | retireGrant =>
    cases e
    split
    · exact u.atSlot _ fun _ i hv => hv.retireAt i
    · exact u
  | setStateGrant =>
    cases e
    split
    · exact u.atSlot _ fun _ i hv => hv.setStateAt _ i
    · exact u
  | pinGrant | unpinGrant =>
    cases e
    split
    · exact u.atSlot _ fun _ i hv => hv.setPinAt _ i
    · exact u
  | clearCountsGrant =>
    cases e
    split
    · exact u.atSlot _ fun _ i hv => hv.clearCountsAt i
    · exact u
  | readEntryGrant =>
    cases e
    split
    · exact u.atSlot _ fun _ _ hv => hv
    · exact u
  | seekGrant | seekNextGrant =>
    cases e
    split
    · exact granted.update
    · exact u
  | dropWalk =>
    cases e
    split
    · exact (granted.dropScope _).update
    · exact u
  | keepWalk =>
    cases e
    split
    · exact (granted.keepScope _).update
    · exact u
  | restartWalk =>
    cases e
    split
    · exact granted.restartAll.update
    · exact u
  | clearTableWalk =>
    cases e
    split
    · exact granted.clearAll.update
    · exact u
  | _ => cases hc

/-- Every command keeps the invariants. -/
theorem of_exec (e : exec c s = .next t) : s.Keeps t := by
  have h := State.Keeps.refl s
  have u := h.catchUp
  have frame : s.Keeps s.catchUp.grantFrame := u.update
  have derive : s.Keeps s.catchUp.grantDerive := u.update
  cases c with
  | powerOn | reset => cases e; exact atPowerOn s s _
  | resetRelease => cases e; exact h.update
  | partReady =>
    cases e
    split
    · exact h
    · exact h.update
  | frameWorkStart => cases e; exact h.performChannel.startFrame
  | frameMatch =>
    cases e
    split
    · exact (frame.matchChannel _ _ _ _).continuePart _ _ _ _
    · exact u
  | anchorCheck =>
    cases e
    split
    · exact (frame.checkAnchor _ _ _).continuePart _ _ _ _
    · exact u
  | search =>
    cases e
    split
    · split
      · exact derive.searchFor _
      · exact derive
    · exact u
  | blendStart => cases e; exact h.startBlend
  | blendComplete => cases e; exact u.completeBlend
  | install =>
    cases e
    split
    · split
      · split
        · exact derive.installFor _ _
        · exact derive
      · exact derive
    · exact u
  | sweepStart => cases e; exact h.startSweep
  | sweepStep =>
    cases e
    split
    · exact u.sweepBlock _ _
    · exact u
  | gradePortPull => cases e; exact u.pull
  | setChannelPerform => cases e; exact h.performChannel
  | openWord | zoneWord | anchorWord | closeWord | unknownKindWord => exact of_exec_word rfl e
  | fetch | fetchCutShort | messageDropped | messageCutShort | selectAborted | malformed => exact of_exec_period rfl e
  | place | amend | retire | setState | pin | unpin | clearCounts | readEntry | seek | seekNext | setCursor
  | setProfile | setServiceMatch | stageProfile | setChannel | readChannel | setLearning | readDerivations
  | setClass | openScope | closeScope | readStatus | readCauses | clearCauses | setNoticeMask | restart
  | clearTable => exact of_exec_request (by simp [isRequest, encodeMessage]) e
  | placeGrant | amendGrant | retireGrant | setStateGrant | pinGrant | unpinGrant | clearCountsGrant
  | readEntryGrant | seekGrant | seekNextGrant | dropWalk | keepWalk | restartWalk | clearTableWalk =>
    exact of_exec_serviceGrant rfl e

/-- Every step keeps the invariants. -/
theorem of_step (e : step s = .next t) : s.Keeps t :=
  step_keeps (P := s.Keeps) (fun _ _ hu => hu.update) (fun _ hu => hu.deliverWord)
    (fun _ _ _ hu e => hu.trans (of_exec e)) s t (State.Keeps.refl s) e

end State.Keeps

/-- Settles O57: the four invariants pass through every step, and a queue of one request a channel holds at
most four. -/
theorem stepKeepsQueuesAndSweep : Obligations.StepKeepsQueuesAndSweep := fun _ _ e =>
  have keeps := State.Keeps.of_step e
  ⟨fun h => ⟨keeps.derivations h, (keeps.derivations h).length_le⟩, keeps.sweep, keeps.bounds, keeps.openFrame⟩

end Sys2Proof.Machine
end

section
/-!
PROOFS. The events that come about at once: each where its condition holds, all of them before any other command (R57,
R58, R61, R86, R98, R116; log entry 3).
-/
namespace Sys2Proof.Machine

-- One theorem after another: many at once would each hold a stack of their own.
set_option Elab.async false

/-! ### When nothing is due -/

/-- What it means that no SET CHANNEL is due (R86). -/
theorem State.channelDue_eq_false {s : State} :
    s.channelDue = false ↔ ∀ c f, s.link.state = .working (.setChannel c f) → s.inWork c = true := by
  unfold State.channelDue
  split
  · next c f h =>
    rw [Bool.not_eq_false']
    refine ⟨fun k c' f' e => ?_, fun k => k c f h⟩
    cases h.symm.trans e
    exact k
  · next h => exact ⟨fun _ c f e => absurd e (h c f), fun _ => rfl⟩

/-- What it means that no frame is due (R57). -/
theorem State.frameDue_eq_false {s : State} : s.frameDue = false ↔ ∀ f, s.path.closing ≠ .handed f := by
  unfold State.frameDue
  cases s.path.closing <;> simp

/-- What it means that no sweep is due (R116). -/
theorem AgingUnit.sweepDue_eq_false {a : AgingUnit} :
    a.sweepDue = false ↔ a.sweep ≠ none ∨ ∀ k : ClassNo, a.pendingTicks[k] = 0 := by
  have ticks : (a.pendingTicks.toList.any fun t => t != 0) = false ↔ ∀ k : ClassNo, a.pendingTicks[k] = 0 := by
    simp only [Vector.any_toList, Vector.any_eq_false, bne_iff_ne, ne_eq, not_not, Fin.forall_iff, Fin.getElem_fin]
  unfold AgingUnit.sweepDue
  rw [Bool.and_eq_false_iff, ticks]
  cases a.sweep <;> simp

/-! ### What each event leaves due -/

/-- A SET CHANNEL that was due is performed once (R86). -/
theorem State.performChannel_performChannel (s : State) : s.performChannel.performChannel = s.performChannel :=
  State.performChannel_of_not_due s.channelDue_performChannel

/-- A frame's parts end with the frame complete, or wait for a grant: none is due that did not wait (R60, R61). -/
theorem State.frameDue_runParts (w : FrameWork) (l : List Chan) (s : State) :
    (s.runParts w none l).frameDue = false := by
  induction l generalizing s with
  | nil => rfl
  | cons c l ih =>
    unfold State.runParts
    split
    · rfl
    · split
      · rfl
      · exact ih _
    · split
      · rfl
      · exact ih _

/-- A frame that was due has started (R57, R58). -/
theorem State.frameDue_startFrame (s : State) : s.startFrame.frameDue = false := by
  unfold State.startFrame
  split
  · exact State.frameDue_runParts _ _ _
  · next h => exact State.frameDue_eq_false.mpr h

/-- The start of a frame leaves the link as it stands. -/
theorem State.link_startFrame (s : State) : s.startFrame.link = s.link := by
  unfold State.startFrame
  split
  · refine State.runParts_keeps (P := fun u => u.link = s.link) _ none (fun _ h => h) (fun _ _ _ _ h => h)
      (fun u c h => ?_) (fun _ _ _ _ h => h) chans s rfl
    rw [State.workDark, State.deliver_eq]
    exact h
  · rfl

/-- A frame's start makes no SET CHANNEL due: before it no channel had frame work in progress (R68, R86). -/
theorem State.channelDue_startFrame {s : State} (h : s.channelDue = false) : s.startFrame.channelDue = false := by
  cases due : s.frameDue with
  | false => rwa [State.startFrame_of_not_due due]
  | true =>
    have idle (c : Chan) : s.inWork c = false := by
      unfold State.frameDue at due
      unfold State.inWork
      split at due
      · next e => rw [e]
      · cases due
    refine State.channelDue_eq_false.mpr fun c f e => ?_
    have busy := State.channelDue_eq_false.mp h c f (State.link_startFrame s ▸ e)
    rw [idle c] at busy
    cases busy

/-- The blends that were due have started (R98). -/
theorem State.blendDue_startBlends (s : State) : s.startBlends.blendDue = false := by
  refine State.blendDue_eq_false.mpr ?_
  simp only [State.startBlends, State.setDerive_derive, fillBlender_eq, List.drop_eq_nil_iff, List.length_append,
    List.length_take]
  omega

/-- The sweep that was due has started (R116). -/
theorem State.sweepDue_startSweep (s : State) : s.startSweep.aging.sweepDue = false := by
  cases due : s.aging.sweepDue with
  | false => rwa [State.startSweep_of_not_due due]
  | true =>
    unfold State.startSweep
    rw [if_pos due]
    rfl

/-- The start of a sweep writes the aging unit and AGING's operation alone (R116). -/
theorem State.startSweep_eq (s : State) :
    s.startSweep = { s with aging := s.startSweep.aging, arbiter := s.startSweep.arbiter } := by
  unfold State.startSweep
  split <;> rfl

/-- Catching up leaves nothing due. -/
theorem State.settled_catchUp (s : State) : s.catchUp.settled = true := by
  have channel : s.performChannel.startFrame.channelDue = false :=
    State.channelDue_startFrame (State.channelDue_performChannel s)
  have frame := s.performChannel.frameDue_startFrame
  have blend := s.performChannel.startFrame.blendDue_startBlends
  refine (State.settled_iff _).mpr ⟨?_, ?_, ?_, State.sweepDue_startSweep _⟩
  · rw [State.catchUp, State.startSweep_eq]; exact channel
  · rw [State.catchUp, State.startSweep_eq]; exact frame
  · rw [State.catchUp, State.startSweep_eq]; exact blend

/-- Catching up twice is catching up. -/
theorem State.catchUp_catchUp (s : State) : s.catchUp.catchUp = s.catchUp :=
  State.catchUp_of_settled s.settled_catchUp

/-! ### Catching up, event by event -/

/-- Starting blends one by one, as often as one waits and the blender has room, fills the blender (R98). -/
theorem DerivationUnit.iterate_startBlend (d : DerivationUnit) :
    ∃ n,
      (∀ k < n, (startBlend^[k] d).waitingBlends ≠ [] ∧ (startBlend^[k] d).blends.length < 4) ∧
        ((startBlend^[n] d).waitingBlends = [] ∨ 4 ≤ (startBlend^[n] d).blends.length) ∧
        startBlend^[n] d =
          { d with
            blends := (fillBlender d.blends d.waitingBlends).1
            waitingBlends := (fillBlender d.blends d.waitingBlends).2 } := by
  by_cases due : d.waitingBlends = [] ∨ 4 ≤ d.blends.length
  · refine ⟨0, fun k hk => absurd hk (Nat.not_lt_zero k), due, ?_⟩
    rw [fillBlender_of_not_due due]
    rfl
  · obtain ⟨some_waits, room⟩ : d.waitingBlends ≠ [] ∧ d.blends.length < 4 := by simpa using due
    obtain ⟨b, l, waiting⟩ := List.exists_cons_of_ne_nil some_waits
    have started := DerivationUnit.startBlend_of_room waiting room
    obtain ⟨n, before, ended, filled⟩ := DerivationUnit.iterate_startBlend d.startBlend
    refine ⟨n + 1, fun k hk => ?_, ended, filled.trans ?_⟩
    · cases k with
      | zero => exact ⟨some_waits, room⟩
      | succ k => exact before k (Nat.lt_of_succ_lt_succ hk)
    · have fill : fillBlender d.blends (b :: l) = fillBlender (d.blends ++ [b]) l := if_pos room
      rw [started, waiting, fill]
termination_by d.waitingBlends.length
decreasing_by simp [started, waiting]

/-- The part after so many blends have started one by one (R98). -/
def State.withBlendStarts (s : State) (k : Nat) : State := s.setDerive (DerivationUnit.startBlend^[k] s.derive)

/-- One more blend starts by BLEND_START. -/
theorem State.exec_blendStart_withBlendStarts (s : State) (k : Nat) :
    exec .blendStart (s.withBlendStarts k) = .next (s.withBlendStarts (k + 1)) := by
  unfold State.withBlendStarts
  rw [Function.iterate_succ_apply']
  rfl

/-- A command that is neither a line's nor an event that comes about at once finds those events performed (log entry
3). -/
theorem exec_catchUp {c : Instr} (hc : comesAfterDueEvents c = true) (s : State) : exec c s = exec c s.catchUp := by
  have caught := s.catchUp_catchUp
  cases c with
  | powerOn | reset | resetRelease | partReady | frameWorkStart | blendStart | sweepStart | setChannelPerform =>
    cases hc
  | openWord | zoneWord | anchorWord | closeWord | unknownKindWord =>
    simp only [exec, execOpenWord, execZoneWord, execAnchorWord, execCloseWord, execUnknownKindWord, caught]
  | frameMatch | anchorCheck | search | blendComplete | install | sweepStep | gradePortPull =>
    simp only [exec, execFrameMatch, execAnchorCheck, execSearch, execBlendComplete, execInstall, execSweepStep,
      execGradePortPull, caught]
  | fetch | fetchCutShort | messageDropped | messageCutShort | selectAborted | malformed =>
    simp only [exec, execFetch, execFetchCutShort, execMessageDropped, execMessageCutShort, execSelectAborted,
      execMalformed, caught]
  | place | amend | retire | setState | pin | unpin | clearCounts | readEntry | seek | seekNext | setCursor =>
    simp only [exec, execPlace, execAmend, execRetire, execSetState, execPin, execUnpin, execClearCounts, execReadEntry,
      execSeek, execSeekNext, execSetCursor, caught]
  | setProfile | setServiceMatch | stageProfile | setChannel | readChannel | setLearning | readDerivations | setClass
  | readStatus | readCauses | clearCauses | setNoticeMask =>
    simp only [exec, execSetProfile, execSetServiceMatch, execStageProfile, execSetChannel, execReadChannel,
      execSetLearning, execReadDerivations, execSetClass, execReadStatus, execReadCauses, execClearCauses,
      execSetNoticeMask, caught]
  | openScope | closeScope | restart | clearTable | dropWalk | keepWalk | restartWalk | clearTableWalk =>
    simp only [exec, execOpenScope, execCloseScope, execRestart, execClearTable, execDropWalk, execKeepWalk,
      execRestartWalk, execClearTableWalk, caught]
  | placeGrant | amendGrant | retireGrant | setStateGrant | pinGrant | unpinGrant | clearCountsGrant | readEntryGrant
  | seekGrant | seekNextGrant =>
    simp only [exec, execPlaceGrant, execAmendGrant, execRetireGrant, execSetStateGrant, execPinGrant, execUnpinGrant,
      execClearCountsGrant, execReadEntryGrant, execSeekGrant, execSeekNextGrant, caught]

/-- Settles O5: each event by its condition, the blends one by one by `DerivationUnit.iterate_startBlend`. -/
theorem dueEventsComeFirst : Obligations.DueEventsComeFirst := by
  refine ⟨fun s noChannel noFrame noBlend noSweep channel frame blend sweep => ?_, fun s => ?_, State.settled_catchUp,
    fun s => State.catchUp_of_settled, fun c s hc => exec_catchUp hc s⟩
  · rw [← State.channelDue_eq_false] at channel
    rw [← State.frameDue_eq_false] at frame
    rw [← State.blendDue_eq_false] at blend
    rw [← AgingUnit.sweepDue_eq_false] at sweep
    refine ⟨by rw [State.settled_iff, channel, frame, blend, sweep], fun hc => ?_, fun hc hf => ?_, fun hb => ?_,
      fun hs => ?_⟩
    · exact congrArg _ (State.performChannel_of_not_due (channel.mp hc))
    · have none_performed := State.performChannel_of_not_due (channel.mp hc)
      exact congrArg _ ((congrArg _ none_performed).trans (State.startFrame_of_not_due (frame.mp hf)))
    · have none_started := DerivationUnit.startBlend_of_not_due (State.blendDue_eq_false.mp (blend.mp hb))
      exact congrArg (fun d => (.next (s.setDerive d) : Result)) none_started
    · exact congrArg _ (State.startSweep_of_not_due (sweep.mp hs))
  · obtain ⟨n, before, ended, filled⟩ := s.performChannel.startFrame.derive.iterate_startBlend
    refine ⟨s.performChannel, s.performChannel.startFrame.withBlendStarts, n, rfl, ?_,
      fun k hk => ⟨(before k hk).1, (before k hk).2, State.exec_blendStart_withBlendStarts _ k⟩, ended, ?_⟩
    · exact congrArg (fun u : State => Host.Outcome.next u.startFrame) s.performChannel_performChannel
    · exact congrArg (fun d => Host.Outcome.next (s.performChannel.startFrame.setDerive d).startSweep) filled

end Sys2Proof.Machine
end

section
/-!
PROOFS. The reading words (R48 to R57, R114).
-/
namespace Sys2Proof.Machine

-- One theorem after another: many at once would each hold a stack of their own.
set_option Elab.async false

/-- A reading word that the part takes has its own effect alone: nothing is due before it (R64). -/
theorem State.next_takeWord {s t : State} (h : s.reads = true) {f : State → State} (e : f s = t) :
    (.next (s.catchUp.takeWord f) : Result) = .next t :=
  congrArg _ ((State.takeWord_of_reads h f).trans e)

/-! ### Open words -/

/-- A close is pending when a frame waits behind the one in work (R57). -/
theorem Closing.hasPending_eq_false {c : Closing} (h : ∀ w f, c ≠ .busy w (some f)) : c.hasPending = false := by
  unfold Closing.hasPending
  split
  · next w f => exact absurd rfl (h w f)
  · rfl

/-- A number not above the last accepted is out of order (R49). -/
theorem FramePath.outOfOrder_of_le {p : FramePath} {m n : Nat} (last : p.lastAccepted = some m) (le : n ≤ m) :
    p.outOfOrder n = true := by
  simp only [FramePath.outOfOrder, last, le, decide_true]

/-- A number above the last accepted, if there is one, is in order (R49). -/
theorem FramePath.outOfOrder_eq_false {p : FramePath} {n : Nat} (above : ∀ m, p.lastAccepted = some m → m < n) :
    p.outOfOrder n = false := by
  unfold FramePath.outOfOrder
  split
  · next m last => exact decide_eq_false (Nat.not_le.mpr (above m last))
  · rfl

/-- A staged profile is taken over, and none is staged after it (R50, R62). -/
theorem FrameContext.takeOver_eq (x : FrameContext) :
    x.takeOver = { selected := x.staged.getD x.selected, staged := none } := by
  obtain ⟨selected, staged⟩ := x
  cases staged <;> rfl

/-- The pending ticks after an accepted open word (R114): those of the numbers passed are added, up to 255. -/
theorem State.pendingTicks_passTicks (s : State) (n : Nat) (k : ClassNo) :
    (s.passTicks n).aging.pendingTicks[k] =
      match s.path.lastAccepted with
      | none => s.aging.pendingTicks[k]
      | some m =>
        min
          (s.aging.pendingTicks[k] +
            (n / (s.aging.classes[k] : ClassDescriptor).prescale -
              m / (s.aging.classes[k] : ClassDescriptor).prescale))
          255 := by
  unfold State.passTicks
  split
  · next m last => rw [last]; exact Vec.getElem_mapIdx _ _ k
  · next last => rw [last]

/-- An accepted open word (R50): the path and the FRAME context are written, and the ticks passed on. -/
theorem State.acceptFrame_eq (s : State) (n tag : Nat) :
    s.acceptFrame n tag =
      { s with
        path :=
          { s.path with
            receiving := .opened { number := n, tag := tag, release := s.matching.frame.staged.isSome }
            tag := some tag
            zones := Vector.replicate 16 none
            anchors := []
            lastAccepted := some n }
        matching :=
          { s.matching with
            frame := { selected := s.matching.frame.staged.getD s.matching.frame.selected, staged := none } }
        aging := { s.aging with pendingTicks := (s.passTicks n).aging.pendingTicks } } := by
  rw [← FrameContext.takeOver_eq]
  unfold State.acceptFrame State.passTicks
  split <;> rfl

/-- Settles O7: overrun before order, and an accepted word by `State.acceptFrame_eq`. -/
theorem openWordIsJudged : Obligations.OpenWordIsJudged := by
  intro number tag s reads
  refine ⟨fun w f pending => ?overrun, fun free => ⟨fun m last le => ?order, fun above => ?accepted⟩⟩
  case overrun =>
    have overrun : s.path.closing.hasPending = true := by rw [pending]; rfl
    exact State.next_takeWord reads (if_pos overrun)
  case order =>
    have room : ¬s.path.closing.hasPending = true := by rw [Closing.hasPending_eq_false free]; exact Bool.false_ne_true
    exact State.next_takeWord reads ((if_neg room).trans (if_pos (FramePath.outOfOrder_of_le last le)))
  case accepted =>
    have judged : s.openFrame number.toNat tag.toNat = s.acceptFrame number.toNat tag.toNat := by
      simp only [State.openFrame, Closing.hasPending_eq_false free, FramePath.outOfOrder_eq_false above,
        Bool.false_eq_true, if_false]
    exact ⟨_, State.next_takeWord reads (judged.trans (State.acceptFrame_eq s _ _)), rfl,
      State.pendingTicks_passTicks s number.toNat⟩

/-! ### Readings and close words -/

/-- Settles O8: a ZONE word by its receiving state, and a word of no known kind whatever the state. -/
theorem zoneAndUnknownKindWords : Obligations.ZoneAndUnknownKindWords := by
  refine ⟨fun zone u v level confidence s reads => ⟨fun f receiving => ?opened, fun receiving => ?idle,
    fun receiving => ?discarding⟩, fun kind s reads => State.next_takeWord reads rfl⟩
  all_goals
    refine State.next_takeWord reads ?_
    simp only [State.bufferZone, receiving, State.stray, State.raise, State.setPath, NoticeUnit.raised]

/-- Settles O9: an ANCHOR word by its receiving state and the room in the list, a CLOSE word by the receiving state and
what the closing side holds. -/
theorem anchorAndCloseWords : Obligations.AnchorAndCloseWords := by
  refine ⟨fun slot channel r g b s reads => ⟨fun f receiving room => ?kept, fun f receiving full => ?overflow,
    fun receiving => ?stray, fun receiving => ?discarded⟩,
    fun s reads => ⟨fun f receiving closing => ?starts, fun f w receiving closing => ?waits,
      fun receiving => ?closeStray, fun receiving => ?closeDiscarding⟩⟩
  case kept =>
    refine State.next_takeWord reads ?_
    simp only [State.bufferAnchor, receiving]
    exact if_pos room
  case overflow =>
    refine State.next_takeWord reads ?_
    simp only [State.bufferAnchor, receiving]
    exact if_neg (Nat.not_lt.mpr full)
  case stray | discarded =>
    refine State.next_takeWord reads ?_
    simp only [State.bufferAnchor, receiving, State.stray, State.raise, NoticeUnit.raised]
  case starts | waits =>
    refine State.next_takeWord reads ?_
    simp only [State.closeFrame, receiving, closing]
    rfl
  case closeStray | closeDiscarding =>
    refine State.next_takeWord reads ?_
    simp only [State.closeFrame, receiving]
    rfl

end Sys2Proof.Machine
end

section
/-!
PROOFS. The work of a frame: its start (R58), the order of its parts (R60, R61), and the channel readings (R59).
-/
namespace Sys2Proof.Machine

-- One theorem after another: many at once would each hold a stack of their own.
set_option Elab.async false

/-! ### The order of the parts (R60, R61) -/

/-- A channel outside the channel set has no part but its anchor readings (R60). -/
theorem State.runParts_outside {w : FrameWork} {c : Chan} (h : w.inputs[c] = .outside) (waiting : Option ClosedFrame)
    (l : List Chan) (s : State) :
    s.runParts w waiting (c :: l) =
      match w.frame.anchorsFor c with
      | a :: rest => s.continuePart w waiting c (a :: rest)
      | [] => s.runParts w waiting l := by
  rw [State.runParts, h]
  cases w.frame.anchorsFor c <;> rfl

/-- A DARK channel's own work comes before its anchor readings (R60, R73). -/
theorem State.runParts_dark {w : FrameWork} {c : Chan} (h : w.inputs[c] = .dark) (waiting : Option ClosedFrame)
    (l : List Chan) (s : State) :
    s.runParts w waiting (c :: l) =
      match w.frame.anchorsFor c with
      | a :: rest => (s.workDark w c).continuePart w waiting c (a :: rest)
      | [] => (s.workDark w c).runParts w waiting l := by
  rw [State.runParts, h]
  cases w.frame.anchorsFor c <;> rfl

/-- A channel with a reading waits for its MATCH (R60, R69). -/
theorem State.runParts_reading {w : FrameWork} {c : Chan} {r : ChannelReading} (h : w.inputs[c] = .reading r)
    (waiting : Option ClosedFrame) (l : List Chan) (s : State) :
    s.runParts w waiting (c :: l) = s.beginMatch w waiting c r := by
  rw [State.runParts, h]

/-- The start of a channel's frame work leaves its winner (R69). -/
theorem Channel.winner_beginFrame (n : Nat) (ch : Channel) : (ch.beginFrame n).winner = ch.winner := by
  rw [ch.beginFrame_eq n]

/-- The mode of a channel's MATCH once its frame has begun, with its winner from before (R70). -/
theorem Channel.mode_beginFrame (n : Nat) (release : Bool) (ch : Channel) :
    (ch.beginFrame n).mode release =
      if (ch.beginFrame n).lock = .locked then .locked
      else if ch.winner ≠ none ∧ release = false then .hold
      else .openMode := by
  simp only [Channel.mode, Channel.winner_beginFrame, Option.isSome_iff_ne_none]

/-- Settles O11: the parts by what the start of the work gave the channel. -/
theorem partsRunInChannelOrder : Obligations.PartsRunInChannelOrder := by
  intro w waiting s
  refine ⟨by cases waiting <;> rfl, fun c => rfl, rfl, rfl, rfl, rfl, fun c l => ⟨fun r reading => ?_,
    fun outside => ⟨fun none_named => ?_, fun a rest named => ?_⟩,
    fun dark => ⟨s.workDark w c, rfl, fun none_named => ?_, fun a rest named => ?_⟩, fun a rest => rfl⟩⟩
  · rw [State.runParts_reading reading, ← Channel.mode_beginFrame]
    rfl
  · rw [State.runParts_outside outside, none_named]
  · rw [State.runParts_outside outside, named]
  · rw [State.runParts_dark dark, none_named]
  · rw [State.runParts_dark dark, named]

/-! ### The start of a frame (R58) -/

/-- A frame with no channel in its channel set and no anchor reading is complete at once (R61). -/
theorem State.runParts_all_outside {w : FrameWork} (outside : ∀ c : Chan, w.inputs[c] = .outside)
    (no_anchors : w.frame.anchors = []) (waiting : Option ClosedFrame) (l : List Chan) (s : State) :
    s.runParts w waiting l = s.completeFrame waiting := by
  induction l with
  | nil => rfl
  | cons c l ih =>
    have none_named : w.frame.anchorsFor c = [] := by rw [ClosedFrame.anchorsFor, no_anchors]; rfl
    rw [State.runParts_outside (outside c), none_named]
    exact ih

/-- The work that a handed-over frame starts (R58). -/
def State.workOf (s : State) (f : ClosedFrame) : FrameWork :=
  { frame := f
    inputs := Vec.mapIdx (fun _ ch => channelInput s.frameProfile.confidenceFloor f ch) s.channels
    channel := 0
    toCheck := [] }

/-- A handed-over frame runs its parts from channel 0 (R58, R60). -/
theorem State.startFrame_of_handed {s : State} {f : ClosedFrame} (h : s.path.closing = .handed f) :
    s.startFrame = s.runParts (s.workOf f) none [0, 1, 2, 3] := by
  rw [State.startFrame, h]
  rfl

/-- What the start of a frame's work gives a channel (R58). -/
theorem State.inputs_workOf (s : State) (f : ClosedFrame) (c : Chan) :
    (s.workOf f).inputs[c] =
      if (s.channel c).config.enabled then
        formReading (s.channel c).config.zoneSet s.frameProfile.confidenceFloor f
      else .outside :=
  Vec.getElem_mapIdx _ s.channels c

/-- FRAME_WORK_START on a handed-over frame with no SET CHANNEL due (R58). -/
theorem exec_frameWorkStart_of_handed {s : State} {f : ClosedFrame} (handed : s.path.closing = .handed f)
    (not_due : s.channelDue = false) :
    exec .frameWorkStart s = .next (s.runParts (s.workOf f) none [0, 1, 2, 3]) := by
  rw [← State.startFrame_of_handed handed]
  exact congrArg (fun u : State => Host.Outcome.next u.startFrame) (State.performChannel_of_not_due not_due)

/-- Settles O10: a due SET CHANNEL is performed once, and the work is that of `State.workOf`. -/
theorem frameWorkStarts : Obligations.FrameWorkStarts := by
  intro f s handed
  refine ⟨fun _ => ?_, fun not_due => ⟨⟨s.workOf f, exec_frameWorkStart_of_handed handed not_due, rfl, rfl,
    s.inputs_workOf f⟩, fun disabled no_anchors => ?_⟩⟩
  · exact congrArg (fun u : State => Host.Outcome.next u.startFrame) s.performChannel_performChannel.symm
  · have outside (c : Chan) : (s.workOf f).inputs[c] = .outside := by rw [State.inputs_workOf, disabled c]; rfl
    rw [exec_frameWorkStart_of_handed handed not_due, State.runParts_all_outside outside no_anchors]
    rfl

/-! ### Channel readings (R59) -/

/-- A zone's reading, where it is admitted to a channel's reading: the zone is in the zone set, and the reading's
confidence at the floor or above (R59). -/
def admittedReading (zoneSet : BitVec 16) (floor : Nat) (zones : Vector (Option ZoneReading) 16) (z : Zone) :
    Option ZoneReading :=
  if zoneSet.getLsbD z.val then
    match (zones[z] : Option ZoneReading) with
    | some r => if floor ≤ r.confidence then some r else none
    | none => none
  else none

/-- The admitted zones are those whose reading is admitted. -/
theorem admittedZones_eq (zoneSet : BitVec 16) (floor : Nat) (zones : Vector (Option ZoneReading) 16) :
    admittedZones zoneSet floor zones = (List.finRange 16).filterMap (admittedReading zoneSet floor zones) := rfl

/-- A sum over what is found in a list is a sum over the list, with 0 where nothing is found. -/
theorem sum_map_filterMap {α β : Type} (f : α → Option β) (g : β → Nat) (l : List α) :
    ((l.filterMap f).map g).sum = (l.map fun a => ((f a).map g).getD 0).sum := by
  induction l with
  | nil => rfl
  | cons a l ih => cases h : f a <;> simp [h, ih]

/-- A sum over the admitted zones is a sum over all zones, with 0 for those not admitted. -/
theorem sum_admittedZones (zoneSet : BitVec 16) (floor : Nat) (zones : Vector (Option ZoneReading) 16)
    (g : ZoneReading → Nat) :
    ((admittedZones zoneSet floor zones).map g).sum =
      ∑ z, ((admittedReading zoneSet floor zones z).map g).getD 0 := by
  rw [admittedZones_eq, sum_map_filterMap, Fin.sum_univ_def]

/-- Settles O12: W and the weighted sums over the admitted zones are sums over all zones. -/
theorem channelReadingIsFormed : Obligations.ChannelReadingIsFormed := by
  intro zoneSet floor f conf reading given
  have summed (g : ZoneReading → Nat) :
      ((admittedZones zoneSet floor f.zones).map fun r => r.confidence * g r).sum = ∑ z, conf z * g (reading z) := by
    rw [sum_admittedZones]
    refine Finset.sum_congr rfl fun z _ => ?_
    have hz := given z
    unfold admittedReading
    cases hr : (f.zones[z] : Option ZoneReading) with
    | none =>
      rw [hr] at hz
      simp [hz]
    | some r =>
      rw [hr] at hz
      obtain ⟨rfl, weight⟩ := hz
      rw [weight]
      cases zoneSet.getLsbD z.val with
      | false => simp
      | true => by_cases confident : floor ≤ (reading z).confidence <;> simp [confident]
  have total : totalConfidence (admittedZones zoneSet floor f.zones) = ∑ z, conf z := by
    simpa [totalConfidence] using summed fun _ => 1
  refine ⟨fun zero => if_pos (total.trans zero), fun nonzero => (if_neg (total ▸ nonzero)).trans ?_⟩
  simp only [weightedMean, summed, total]

end Sys2Proof.Machine
end

section
/-!
PROOFS. A channel's winner is LIVE (R79): what each operation of the part does to the slots' states and to the winners.
-/
namespace Sys2Proof.Machine

-- One theorem after another: many at once would each hold a stack of their own.
set_option Elab.async false

/-! ### What the operations leave of a channel's winner -/

/-- A winner that stands after a clearing stood before it, and is not among the slots that go (R79). -/
theorem Channel.winner_loseWinner_eq_some {gone : Slot → Bool} {ch : Channel} {i : Slot}
    (h : (ch.loseWinner gone).winner = some i) : ch.winner = some i ∧ gone i = false := by
  unfold Channel.loseWinner at h
  split at h
  · next j hj =>
    split at h
    · cases h
    · next stays =>
      obtain rfl := Option.some.inj (hj.symm.trans h)
      exact ⟨hj, Bool.eq_false_iff.mpr stays⟩
  · next hn => exact absurd (hn.symm.trans h) (by simp)

/-- A reference to a request that has gone is no part of the winner (R106). -/
theorem Channel.winner_loseDerivation (gone : List Nat) (ch : Channel) :
    (ch.loseDerivation gone).winner = ch.winner := by
  unfold Channel.loseDerivation
  split
  · split <;> rfl
  · rfl

/-- A new target leaves a channel's winner (R74, R75). -/
theorem Channel.winner_retarget (n : Nat) (g : Grade) (ch : Channel) : (ch.retarget n g).winner = ch.winner := by
  unfold Channel.retarget
  split
  · rfl
  · split <;> rfl

/-- The glide leaves a channel's winner (R76). -/
theorem Channel.winner_advanceGlide (n : Nat) (ch : Channel) : (ch.advanceGlide n).winner = ch.winner := by
  unfold Channel.advanceGlide
  split
  · simp only
    split <;> rfl
  · rfl

/-- A SET CHANNEL leaves a channel's winner, or makes it absent (R85). -/
theorem Channel.winner_write (f : ChannelFields) (ch : Channel) :
    (ch.write f).winner = none ∨ (ch.write f).winner = ch.winner := by
  unfold Channel.write
  simp only
  split
  · exact .inl rfl
  · exact .inr rfl

/-! ### Slots by state -/

/-- The state of a slot that holds an entry is the entry's (R4). -/
theorem Cell.state_of_entry {c : Cell} {e : Entry} (h : c.entry = some e) : c.state = e.state := by
  simp only [Cell.state, h]

/-- A LIVE slot holds an entry with a LIVE body (R4). -/
theorem Cell.holdsLive_of_state {c : Cell} (h : c.state = .live) : ∃ e x, c.holdsLive e x := by
  unfold Cell.state at h
  split at h
  · cases h
  · next e he =>
    unfold Entry.state at h
    split at h
    · next x hb => exact ⟨e, x, he, hb⟩
    · cases h
    · cases h

/-- An EMPTY slot is not LIVE (R4). -/
theorem Cell.not_live_of_isEmpty {c : Cell} (h : c.isEmpty = true) : c.state ≠ .live := by
  rw [(Cell.isEmpty_iff_state c).mp h]
  simp

/-- An amending request that is not refused changes the entry with its own shadow or a new one (R142, R143). -/
theorem Entry.amended_eq_some {d : Nat} {f : Entry → Entry} {e e' : Entry} (h : e.amended d f = some e') :
    ∃ sh, e' = f { e with shadow := sh } := by
  unfold Entry.amended at h
  split at h
  · exact ⟨e.shadow, (Option.some.inj h).symm⟩
  · split at h
    · exact ⟨_, (Option.some.inj h).symm⟩
    · cases h

/-- An amending request that is not refused writes its slot alone (R142, R143). -/
theorem State.amendEntry_eq_some {s s' : State} {i : Slot} {e : Entry} {bump : Bool} {f : Entry → Entry}
    (h : s.amendEntry i e bump f = some s') :
    ∃ sh c, c.entry = some (f { e with shadow := sh }) ∧ s' = s.setCell i c := by
  unfold State.amendEntry at h
  split at h
  · next e' ha =>
    obtain ⟨sh, rfl⟩ := Entry.amended_eq_some ha
    refine ⟨sh, _, ?_, (Option.some.inj h).symm⟩
    split <;> rfl
  · cases h

/-- What an AMEND writes leaves the state of the entry (R156). -/
theorem Change.state_on (c : Change) (e : Entry) : (c.on e).state = e.state := by
  unfold Entry.state Change.on
  simp only
  cases e.body with
  | illuminant st x => cases st <;> rfl
  | anchor a => cases hc : c.supplied <;> simp only [Change.onBody, hc]

/-- A LIVE slot that is some channel's winner is not retired by a SWEEP STEP (R120), and stays LIVE. -/
theorem Cell.state_aged_of_winner {snap : Vector ClassSnapshot 4} {c : Cell} (h : c.state = .live) :
    (c.aged snap true).state = .live := by
  obtain ⟨e, x, live⟩ := Cell.holdsLive_of_state h
  simp only [Cell.aged, Cell.live_of_holdsLive live]
  split
  · exact h
  · rw [if_neg (by simp [agedOut])]
    rfl

/-- A LIVE slot that a DROP does not take out of LIVE stays LIVE (R144 to R146). -/
theorem Cell.state_dropped {d : Nat} {c : Cell} (h : c.state = .live) (stays : c.dropUnseats d = false) :
    (c.dropped d).state = .live := by
  obtain ⟨not_retired, restored⟩ := Bool.or_eq_false_iff.mp stays
  unfold Cell.dropped at restored ⊢
  rw [not_retired, if_neg Bool.false_ne_true] at restored ⊢
  cases hs : c.dropShadow d with
  | none => exact h
  | some p => simpa [hs, Cell.isLive] using restored

/-- A KEEP leaves the state of every slot (R147). -/
theorem Cell.state_kept (d : Nat) (c : Cell) : (c.kept d).state = c.state := by
  unfold Cell.kept
  split
  · next e he => rw [Cell.state_of_entry he]; rfl
  · rfl

/-! ### The single writes -/

/-- Whether a slot is some channel's winner, from the channel whose winner it is. -/
theorem State.isWinner_of_winner {s : State} {c : Chan} {i : Slot} (h : (s.channel c).winner = some i) :
    s.isWinner i = true :=
  List.any_eq_true.mpr ⟨c, List.mem_finRange c, by simp [h]⟩

namespace State.winnersLive

variable {s t : State}

/-- An update that leaves every slot and every channel. -/
theorem congr (h : s.winnersLive) (table : t.table = s.table := by rfl) (channels : t.channels = s.channels := by rfl) :
    t.winnersLive := fun c i hw => by
  rw [State.cell_congr table i]
  exact h c i (State.channel_congr channels c ▸ hw)

/-- One channel written, with a winner that is LIVE. -/
theorem setChannel (h : s.winnersLive) (c : Chan) {ch : Channel}
    (hc : ∀ i, ch.winner = some i → (s.cell i).state = .live) : (s.setChannel c ch).winnersLive := fun d i hw => by
  rw [State.channel_setChannel] at hw
  split at hw
  · exact hc i hw
  · exact h d i hw

/-- One channel written, its winner as it stands. -/
theorem setChannel_same (h : s.winnersLive) (c : Chan) {ch : Channel} (same : ch.winner = (s.channel c).winner) :
    (s.setChannel c ch).winnersLive :=
  h.setChannel c fun i hw => h c i (same ▸ hw)

/-- One slot written that stays LIVE if it was. -/
theorem setCell (h : s.winnersLive) (i : Slot) {c : Cell} (hc : (s.cell i).state = .live → c.state = .live) :
    (s.setCell i c).winnersLive := fun d j hw => by
  rw [State.cell_setCell]
  split
  · next same => exact hc (same ▸ h d j hw)
  · exact h d j hw

/-- Every slot rewritten, with the winners cleared of those that leave LIVE (R79). -/
theorem mapCells_clearWinners (h : s.winnersLive) {f : Slot → Cell → Cell} {gone : Slot → Bool}
    (hf : ∀ i, (s.cell i).state = .live → gone i = false → (f i (s.cell i)).state = .live) :
    ((s.mapCells f).clearWinners gone).winnersLive := fun c i hw => by
  rw [State.channel_clearWinners] at hw
  obtain ⟨won, stays⟩ := Channel.winner_loseWinner_eq_some hw
  rw [State.cell_clearWinners, State.cell_mapCells]
  exact hf i (h c i won) stays

/-- Every slot rewritten so that each winner stays LIVE. -/
theorem mapCells (h : s.winnersLive) {f : Slot → Cell → Cell}
    (hf : ∀ i, s.isWinner i = true → (s.cell i).state = .live → (f i (s.cell i)).state = .live) :
    (s.mapCells f).winnersLive := fun c i hw => by
  rw [State.cell_mapCells]
  exact hf i (State.isWinner_of_winner hw) (h c i hw)

/-- One slot written in any way, with its winners cleared (R79). -/
theorem setCell_clearWinners (h : s.winnersLive) (i : Slot) (c : Cell) :
    ((s.setCell i c).clearWinners fun j => j == i).winnersLive := fun d j hw => by
  rw [State.channel_clearWinners] at hw
  obtain ⟨won, stays⟩ := Channel.winner_loseWinner_eq_some hw
  rw [State.cell_clearWinners, State.cell_setCell, if_neg (by simpa using stays)]
  exact h d j won

/-- An entry retired (R20). -/
theorem retire (h : s.winnersLive) (i : Slot) : (s.retire i).winnersLive := h.setCell_clearWinners i _

/-- An EMPTY slot written: it is no channel's winner. -/
theorem setCell_empty (h : s.winnersLive) {i : Slot} (empty : (s.cell i).isEmpty = true) (c : Cell) :
    (s.setCell i c).winnersLive :=
  h.setCell i fun live => absurd live (Cell.not_live_of_isEmpty empty)

/-! ### The Derivation Unit -/

/-- The unit's choice (R95). -/
theorem chooseDerive (h : s.winnersLive) : s.chooseDerive.winnersLive := fun c i hw => by
  rw [State.cell_chooseDerive]
  exact h c i (State.channel_chooseDerive s c ▸ hw)

/-- Requests leave the queue (R106). -/
theorem leaveQueue (h : s.winnersLive) (p : Derivation → Bool) : (s.leaveQueue p).winnersLive := fun c i hw => by
  rw [State.channel_leaveQueue, Channel.winner_loseDerivation] at hw
  exact h c i hw

/-- A request ends (R106, R107). -/
theorem endRequest (h : s.winnersLive) (q : Derivation) (e : Ending) : (s.endRequest q e).winnersLive :=
  (h.leaveQueue fun r => r.number == q.number).congr

/-- A miss considered for learning (R92 to R94). -/
theorem considerMiss (h : s.winnersLive) (c : Chan) (r : ChannelReading) (n : Nat) :
    (s.considerMiss c r n).winnersLive := by
  rcases s.considerMiss_cases c r n with e | ⟨q, -, e⟩ | e | ⟨-, e⟩ <;> rw [e]
  · exact h
  · exact h.setChannel_same c rfl
  · exact h.congr
  · exact chooseDerive (setChannel_same (h.congr (t := s.setDerive _)) c rfl)

/-- A SEARCH performed (R96, R97). -/
theorem searchFor (h : s.winnersLive) (q : Derivation) : (s.searchFor q).winnersLive := by
  refine chooseDerive ?_
  split
  · exact (h.endRequest q .noParents).congr
  · exact h.congr

/-- A blend completes (R98, R99). -/
theorem completeBlend (h : s.winnersLive) : s.completeBlend.winnersLive := by
  unfold State.completeBlend
  split
  · exact h
  · simp only
    split
    · exact h.congr
    · exact chooseDerive h.congr

/-- A learned entry placed at an EMPTY slot (R105). -/
theorem placeLearned (h : s.winnersLive) (q : Derivation) (g : Grade) : (s.placeLearned q g).winnersLive := by
  unfold State.placeLearned
  split
  · next i hi => exact (h.setCell_empty (State.isEmpty_lastFree hi) _).endRequest q _
  · exact h

/-- The room an INSTALL finds, and the placement after it (R102 to R105). -/
theorem installRoom (h : s.winnersLive) (q : Derivation) (g : Grade) : (s.installRoom q g).winnersLive := by
  unfold State.installRoom
  split
  · exact h.placeLearned q g
  · split
    · next i _ => exact placeLearned (h.retire i).congr q g
    · exact (h.endRequest q .full).congr

/-- An INSTALL performed (R100 to R105). -/
theorem installFor (h : s.winnersLive) (q : Derivation) (g : Grade) : (s.installFor q g).winnersLive := by
  refine chooseDerive ?_
  split
  · unfold State.installStale
    split
    · exact (h.endRequest q .stale).congr
    · exact h.congr
  · split
    · exact h.endRequest q .redundant
    · exact h.installRoom q g

/-! ### Frames -/

/-- The end of a channel's work (R76, R81). -/
theorem deliver (h : s.winnersLive) (n : Nat) (c : Chan) (o : ChannelOutcome) : (s.deliver n c o).winnersLive :=
  congr (h.setChannel_same c (Channel.winner_advanceGlide n _)) (State.emit_table _ _) (State.emit_channels _ _)

/-- The work of a DARK channel (R73). -/
theorem workDark (h : s.winnersLive) (w : FrameWork) (c : Chan) : (s.workDark w c).winnersLive :=
  have begun : ((s.channel c).beginFrame w.frame.number).settleDark.winner = (s.channel c).winner :=
    Channel.winner_beginFrame w.frame.number (s.channel c)
  deliver (h.setChannel_same c begun) _ c .dark

/-- A MATCH submitted (R69, R70). -/
theorem beginMatch (h : s.winnersLive) (w : FrameWork) (waiting : Option ClosedFrame) (c : Chan)
    (r : ChannelReading) : (s.beginMatch w waiting c r).winnersLive :=
  (h.setChannel_same c (Channel.winner_beginFrame w.frame.number _)).congr

/-- A frame's work complete (R61). -/
theorem completeFrame (h : s.winnersLive) (waiting : Option ClosedFrame) : (s.completeFrame waiting).winnersLive := by
  cases waiting <;> exact h.congr

/-- The parts of a frame (R60). -/
theorem runParts (h : s.winnersLive) (w : FrameWork) (waiting : Option ClosedFrame) (l : List Chan) :
    (s.runParts w waiting l).winnersLive :=
  State.runParts_keeps (P := State.winnersLive) w waiting (fun _ hu => hu.completeFrame waiting)
    (fun _ c r _ hu => hu.beginMatch w waiting c r) (fun _ c hu => hu.workDark w c) (fun _ _ _ _ hu => hu.congr) l s h

/-- What follows in a channel's part (R60). -/
theorem continuePart (h : s.winnersLive) (w : FrameWork) (waiting : Option ClosedFrame) (c : Chan)
    (l : List AnchorReading) : (s.continuePart w waiting c l).winnersLive := by
  unfold State.continuePart
  split
  · exact h.congr
  · exact h.runParts w waiting _

/-- A handed-over frame starts (R58). -/
theorem startFrame (h : s.winnersLive) : s.startFrame.winnersLive := by
  unfold State.startFrame
  split
  · exact h.runParts _ none chans
  · exact h

/-- A MATCH with a result (R38, R71, R74, R75): the winner it names is LIVE. -/
theorem matchFound (h : s.winnersLive) (n : Nat) (c : Chan) (i : Slot) : (s.matchFound n c i).winnersLive := by
  unfold State.matchFound
  split
  · next e x _ =>
    have settled :
        (((s.channel c).takeWinner i).settleMatch n x.grade ((s.channel c).switches i)).winner = some i := by
      rw [Channel.settleMatch_eq, Channel.winner_retarget, Channel.takeWinner_eq]
    have matched (x' : Illuminant) :
        ((s.setCell i ((s.cell i).touchedUp (e.withLight .live x'))).setChannel c
          (((s.channel c).takeWinner i).settleMatch n x.grade ((s.channel c).switches i))).winnersLive := by
      refine (h.setCell i fun _ => rfl).setChannel c fun j hj => ?_
      obtain rfl := Option.some.inj (settled.symm.trans hj)
      rw [State.cell_setCell_self]
      rfl
    refine deliver ?_ n c .matched
    split
    · exact (matched _).congr
    · exact matched _
  · exact h

/-- A MATCH that misses (R72): the winner is gone. -/
theorem matchMissed (h : s.winnersLive) (n : Nat) (c : Chan) (input : ChannelInput) :
    (s.matchMissed n c input).winnersLive := by
  have missed : (s.setChannel c (s.channel c).settleMiss).winnersLive := h.setChannel c fun i hw => by cases hw
  refine deliver ?_ n c .miss
  split
  · exact missed.considerMiss c _ n
  · exact missed

/-- A channel's MATCH performed and settled (R34). -/
theorem matchChannel (h : s.winnersLive) (w : FrameWork) (c : Chan) (k : Key) (mode : MatchMode) :
    (s.matchChannel w c k mode).winnersLive := by
  unfold State.matchChannel
  split
  · exact h.matchFound _ c _
  · exact h.matchMissed _ c _

/-! ### Anchors -/

/-- An anchor's working fields written: an ANCHOR is not LIVE. -/
theorem writeAnchor (h : s.winnersLive) {i : Slot} {e : Entry} {a : AnchorBody}
    (ha : (s.cell i).anchor = some (e, a)) (streak : Nat) (o : AnchorOutcome) :
    (s.writeAnchor i e a streak o).winnersLive := by
  obtain ⟨entry, body⟩ := Cell.anchor_eq_some ha
  refine h.setCell i fun live => ?_
  rw [Cell.state_of_entry entry, Entry.state, body] at live
  cases live

/-- Doubt charged against a slot (R133): a move to HELD takes its winners. -/
theorem chargeDoubt (h : s.winnersLive) (w : Slot) : (s.chargeDoubt w).winnersLive := by
  unfold State.chargeDoubt
  split
  · exact h
  · simp only
    split
    · exact (h.setCell_clearWinners w _).congr
    · exact h.setCell w fun _ => rfl

/-- A check of an anchor reading (R126 to R133). -/
theorem checkAnchor (h : s.winnersLive) (r : AnchorReading) (tag : Nat) (inSet : Bool) :
    (s.checkAnchor r tag inSet).winnersLive := by
  unfold State.checkAnchor
  split
  · next e a ha =>
    have written := h.writeAnchor ha
    split
    · split
      · exact written _ _
      split
      · exact written _ _
      split
      · exact written _ _
      unfold State.failAnchor
      split
      · have drifted : ((s.writeAnchor r.slot e a 0 .fail).raise .drift r.slot.val).winnersLive :=
          (written 0 .fail).congr
        simp only
        split
        · exact drifted.chargeDoubt _
        · exact drifted
      · exact written _ _
    · exact h.congr
  · exact h.congr

/-! ### Aging -/

/-- A sweep starts (R116). -/
theorem startSweep (h : s.winnersLive) : s.startSweep.winnersLive := by
  unfold State.startSweep
  split
  · exact h.congr
  · exact h

/-- A SWEEP STEP performed (R118): winners are exempt from retirement (R120). -/
theorem sweepBlock (h : s.winnersLive) (w : Sweep) (b : Block) : (s.sweepBlock w b).winnersLive := by
  have aged : (s.mapCells fun i c => if inBlock b i then c.aged w.snapshot (s.isWinner i) else c).winnersLive := by
    refine h.mapCells fun i won live => ?_
    split
    · rw [won]; exact Cell.state_aged_of_winner live
    · exact live
  unfold State.sweepBlock State.afterStep
  split <;> exact aged.congr

/-! ### The link, and what comes about at once -/

/-- A period with a message (R165, R166, R176). -/
theorem openMessage (h : s.winnersLive) (tail : List Byte) {f : State → State}
    (hf : ∀ u : State, u.winnersLive → (f u).winnersLive) : (s.openMessage tail f).winnersLive := by
  unfold State.openMessage
  split
  · split
    · exact hf _ h.congr
    · exact h.congr
    · exact h.congr
  · exact h.congr

/-- A message taken (R168). -/
theorem takeMessage (h : s.winnersLive) {f : State → State}
    (hf : ∀ u : State, u.winnersLive → (f u).winnersLive) : (s.takeMessage f).winnersLive :=
  openMessage (h.congr (t := { s with trailing := s.trailing.tail })) _ hf

/-- A reading word taken (R64). -/
theorem takeWord (h : s.winnersLive) {f : State → State} (hf : (f s).winnersLive) : (s.takeWord f).winnersLive := by
  unfold State.takeWord
  split
  · exact hf
  · exact h

/-- A request checked, and submitted or refused (R151). -/
theorem submitChecked {α : Type} (h : s.winnersLive) (op : α → ServiceOp) (check : Except Reason α) :
    (s.submitChecked op check).winnersLive := by
  cases check <;> exact h.congr

/-- A SET CHANNEL performed with its reply (R85). -/
theorem writeChannel (h : s.winnersLive) (c : Chan) (f : ChannelFields) : (s.writeChannel c f).winnersLive := by
  have written : (s.setChannel c ((s.channel c).write f)).winnersLive := h.setChannel c fun i hw => by
    rcases Channel.winner_write f (s.channel c) with gone | same
    · exact absurd (gone.symm.trans hw) (by simp)
    · exact h c i (same ▸ hw)
  exact written.congr

/-- A waiting SET CHANNEL that is due (R86). -/
theorem performChannel (h : s.winnersLive) : s.performChannel.winnersLive := by
  unfold State.performChannel
  split
  · split
    · exact h
    · exact h.writeChannel _ _
  · exact h

/-- The events that come about at once (log entry 3). -/
theorem catchUp (h : s.winnersLive) : s.catchUp.winnersLive :=
  State.catchUp_keeps (P := State.winnersLive) (fun _ => performChannel) (fun _ => startFrame) (fun _ hu => hu.congr)
    (fun _ => startSweep) s h

/-! ### Reading words -/

/-- An open word judged (R49 to R51). -/
theorem openFrame (h : s.winnersLive) (n tag : Nat) : (s.openFrame n tag).winnersLive := by
  unfold State.openFrame
  split
  · exact h.congr
  split
  · exact h.congr
  · rw [State.acceptFrame_eq]
    exact h.congr

/-- A ZONE word (R53). -/
theorem bufferZone (h : s.winnersLive) (z : Zone) (r : ZoneReading) : (s.bufferZone z r).winnersLive := by
  unfold State.bufferZone
  split
  · exact h.congr
  · exact h.congr
  · exact h

/-- An ANCHOR word (R54). -/
theorem bufferAnchor (h : s.winnersLive) (r : AnchorReading) : (s.bufferAnchor r).winnersLive := by
  unfold State.bufferAnchor
  split
  · exact h.congr
  · split <;> exact h.congr
  · exact h

/-- A CLOSE word (R55). -/
theorem closeFrame (h : s.winnersLive) : s.closeFrame.winnersLive := by
  unfold State.closeFrame
  split <;> exact h.congr

/-! ### SERVICE's grants -/

/-- A single-slot operation at its grant (R151 to R153). -/
theorem atSlot (h : s.winnersLive) (target : Target) {act : State → Slot → State × Reply}
    (hact : ∀ (u : State) (i : Slot), u.winnersLive → (act u i).1.winnersLive) :
    (s.grantService.atSlot target act).winnersLive := by
  have granted : s.grantService.winnersLive := h.congr
  have moved (u : State) (hu : u.winnersLive) (r : Reply) : ((u.moveCursor target.viaCursor).reply r).winnersLive :=
    hu.congr (State.moveCursor_table u _) (State.moveCursor_channels u _)
  refine moved _ ?_ _
  split
  · exact hact _ _ granted
  · exact granted

/-- An entry changed after the owned-depth test, which stays LIVE if it was (R142, R143). -/
theorem amendEntry (h : s.winnersLive) {i : Slot} {e : Entry} (he : (s.cell i).entry = some e) {bump : Bool}
    {f : Entry → Entry} {s' : State} (hs : s.amendEntry i e bump f = some s')
    (hf : ∀ sh, e.state = .live → (f { e with shadow := sh }).state = .live) : s'.winnersLive := by
  obtain ⟨sh, c, hc, rfl⟩ := State.amendEntry_eq_some hs
  refine h.setCell i fun live => ?_
  rw [Cell.state_of_entry he] at live
  rw [Cell.state_of_entry hc, hf sh live]

/-- A PLACE at its slot (R155): it is EMPTY, or its winners are cleared first. -/
theorem placeAt (h : s.winnersLive) (n : NewEntry) (i : Slot) : (State.placeAt n s i).1.winnersLive := by
  unfold State.placeAt
  split
  · exact h
  split
  · exact h
  split
  · next empty => exact h.setCell_empty empty _
  · refine (h.retire i).setCell_empty ?_ _
    rw [State.cell_retire, if_pos rfl]
    rfl

/-- An AMEND at its slot (R156): the state stands. -/
theorem amendAt (h : s.winnersLive) (c : Change) (i : Slot) : (State.amendAt c s i).1.winnersLive := by
  unfold State.amendAt
  split
  · exact h
  · next e he =>
    split
    · exact h
    split
    · exact h
    split
    · next hs => exact h.amendEntry he hs fun sh live => (Change.state_on c _).trans live
    · exact h

/-- A SET STATE at its slot (R157): a move to HELD takes the slot's winners. -/
theorem setStateAt (h : s.winnersLive) (st : LightState) (i : Slot) : (State.setStateAt st s i).1.winnersLive := by
  unfold State.setStateAt
  split
  · exact h
  · next e he =>
    split
    · exact h
    · next now x _ =>
      split
      · exact h
      split
      · next hs =>
        cases st with
        | live => exact h.amendEntry he hs fun _ _ => rfl
        | held =>
          obtain ⟨sh, c, -, rfl⟩ := State.amendEntry_eq_some hs
          exact h.setCell_clearWinners i c
      · exact h

/-- A PIN or UNPIN at its slot (R158): the state stands. -/
theorem setPinAt (h : s.winnersLive) (pin : Bool) (i : Slot) : (State.setPinAt pin s i).1.winnersLive := by
  unfold State.setPinAt
  split
  · exact h
  · next e he =>
    split
    · next hs => exact h.amendEntry he hs fun _ live => live
    · exact h

/-- A CLEAR COUNTS at its slot (R159): the state stands. -/
theorem clearCountsAt (h : s.winnersLive) (i : Slot) : (State.clearCountsAt s i).1.winnersLive := by
  unfold State.clearCountsAt
  split
  · exact h
  · next e he =>
    refine h.setCell i fun live => ?_
    obtain ⟨e', x, entry, body⟩ := Cell.holdsLive_of_state live
    obtain rfl := Option.some.inj (he.symm.trans entry)
    simp only [Cell.state, Cell.touchedUp, Entry.state, body, Body.cleared]

/-- A RETIRE at its slot (R160). -/
theorem retireAt (h : s.winnersLive) (i : Slot) : (State.retireAt s i).1.winnersLive := by
  unfold State.retireAt
  split
  · exact h
  · exact h.retire i

/-! ### The walks -/

/-- The table part of a DROP takes the winners it takes out of LIVE (R144 to R146). -/
theorem dropTable (h : s.winnersLive) (d : Nat) : (s.dropTable d).winnersLive :=
  h.mapCells_clearWinners fun _ live stays => Cell.state_dropped live stays

/-- A DROP (R144 to R146). -/
theorem dropScope (h : s.winnersLive) (d : Nat) : (s.dropScope d).winnersLive :=
  congr ((h.dropTable d).leaveQueue fun q => q.issueDepth == d).chooseDerive

/-- A KEEP (R147). -/
theorem keepScope (h : s.winnersLive) (d : Nat) : (s.keepScope d).winnersLive :=
  congr (h.mapCells (f := fun _ c => c.kept d) fun i _ live => (Cell.state_kept d _).trans live)

/-- The queue emptied within a walk (R111). -/
theorem emptyQueue (h : s.winnersLive) : s.emptyQueue.winnersLive := (h.leaveQueue fun _ => true).congr

/-- RESTART leaves no winner (R88, R174). -/
theorem of_restartAll (s : State) : s.restartAll.winnersLive := fun c i hw => by
  rw [State.channel_restartAll] at hw
  cases hw

/-- CLEAR TABLE takes the winners of every slot that held an entry (R175). -/
theorem clearAll (h : s.winnersLive) : s.clearAll.winnersLive := by
  have wiped : ((s.mapCells fun _ c => c.wiped).clearWinners fun i => !(s.cell i).isEmpty).winnersLive :=
    h.mapCells_clearWinners fun i live stays =>
      absurd live (Cell.not_live_of_isEmpty (by simpa using stays))
  exact wiped.emptyQueue.congr

/-- The power-on values have no winner (R24, R67). -/
theorem of_atPowerOn (s : State) (l : Lines) : (s.atPowerOn l).winnersLive := fun c i hw => by
  match c with
  | 0 | 1 | 2 | 3 => cases hw

/-! ### The commands -/

variable {c : Instr}

/-- A reading word keeps the winners LIVE. -/
theorem of_exec_word (h : s.winnersLive) (hc : isReadingWord c = true) (e : exec c s = .next t) : t.winnersLive := by
  have u := h.catchUp
  cases c with
  | openWord number tag => cases e; exact u.takeWord (u.openFrame _ _)
  | zoneWord zone a b level confidence => cases e; exact u.takeWord (u.bufferZone _ _)
  | anchorWord slot channel r g b => cases e; exact u.takeWord (u.bufferAnchor _)
  | closeWord => cases e; exact u.takeWord u.closeFrame
  | unknownKindWord kind => cases e; exact u.takeWord u.congr
  | _ => cases hc

/-- A select period that carries no request taken keeps the winners LIVE. -/
theorem of_exec_period (h : s.winnersLive) (hc : isPeriod c = true) (e : exec c s = .next t) : t.winnersLive := by
  have u := h.catchUp
  cases c with
  | fetch shown extra =>
    cases e
    split
    · split <;> exact u.congr
    · exact u.congr
  | fetchCutShort got =>
    cases e
    split
    · split
      · split <;> exact u.congr
      · exact u.congr
    · exact u.congr
  | messageDropped shown code =>
    cases e
    split <;> exact u.congr
  | messageCutShort code => cases e; exact u.openMessage _ fun _ hv => hv.congr
  | selectAborted => cases e; exact u.congr
  | malformed code => cases e; exact u.takeMessage fun _ hv => hv.congr
  | _ => cases hc

/-- A request message keeps the winners LIVE: all but a SET CHANNEL leave the slots and the channels. -/
theorem of_exec_request (h : s.winnersLive) (hc : isRequest c = true) (e : exec c s = .next t) : t.winnersLive := by
  have u := h.catchUp
  cases c with
  | place | amend | retire | setState | pin | unpin | clearCounts | readEntry =>
    cases e; exact u.takeMessage fun _ hv => hv.submitChecked _ _
  | readDerivations | readStatus | readCauses | restart | clearTable =>
    cases e; exact u.takeMessage fun _ hv => hv.congr
  | seek | seekNext =>
    cases e
    refine u.takeMessage fun v hv => ?_
    split <;> exact hv.congr
  | setServiceMatch | stageProfile | readChannel | setLearning | openScope | clearCauses | setNoticeMask =>
    cases e
    refine u.takeMessage fun v hv => ?_
    simp only [State.setServiceMatch, State.stageProfile, State.readChannel, State.setLearning, State.openScope,
      State.clearCauses, State.setNoticeMask]
    split <;> exact hv.congr
  | setCursor | setProfile =>
    cases e
    refine u.takeMessage fun v hv => ?_
    simp only [State.setCursor, State.setProfile]
    split
    · split <;> exact hv.congr
    · exact hv.congr
  | setClass cls f =>
    cases e
    refine u.takeMessage fun v hv => ?_
    simp only [State.setClass]
    split
    · split <;> exact hv.congr
    · exact hv.congr
  | closeScope mode =>
    cases e
    refine u.takeMessage fun v hv => ?_
    unfold State.takeCloseScope
    split
    · exact hv.congr
    · split <;> exact hv.congr
  | setChannel channel f =>
    cases e
    refine u.takeMessage fun v hv => ?_
    unfold State.takeSetChannel
    split
    · split
      · split
        · exact hv.congr
        · exact hv.writeChannel _ f
      · exact hv.congr
    · exact hv.congr
  | _ => cases hc

/-- A grant of SERVICE's operation keeps the winners LIVE. -/
theorem of_exec_serviceGrant (h : s.winnersLive) (hc : isServiceGrant c = true) (e : exec c s = .next t) :
    t.winnersLive := by
  have u := h.catchUp
  have granted : s.catchUp.grantService.winnersLive := u.congr
  cases c with
  | placeGrant =>
    cases e
    split
    · exact u.atSlot _ fun _ i hv => hv.placeAt _ i
    · exact u
  | amendGrant =>
    cases e
    split
    · exact u.atSlot _ fun _ i hv => hv.amendAt _ i
    · exact u
  | retireGrant =>
    cases e
    split
    · exact u.atSlot _ fun _ i hv => hv.retireAt i
    · exact u
  | setStateGrant =>
    cases e
    split
    · exact u.atSlot _ fun _ i hv => hv.setStateAt _ i
    · exact u
  | pinGrant | unpinGrant =>
    cases e
    split
    · exact u.atSlot _ fun _ i hv => hv.setPinAt _ i
    · exact u
  | clearCountsGrant =>
    cases e
    split
    · exact u.atSlot _ fun _ i hv => hv.clearCountsAt i
    · exact u
  | readEntryGrant =>
    cases e
    split
    · exact u.atSlot _ fun _ _ hv => hv
    · exact u
  | seekGrant | seekNextGrant =>
    cases e
    split
    · exact granted.congr
    · exact u
  | dropWalk =>
    cases e
    split
    · exact (granted.dropScope _).congr
    · exact u
  | keepWalk =>
    cases e
    split
    · exact (granted.keepScope _).congr
    · exact u
  | restartWalk =>
    cases e
    split
    · exact (of_restartAll s.catchUp.grantService).congr
    · exact u
  | clearTableWalk =>
    cases e
    split
    · exact granted.clearAll.congr
    · exact u
  | _ => cases hc

/-- Every command keeps the winners LIVE. -/
theorem of_exec (h : s.winnersLive) (e : exec c s = .next t) : t.winnersLive := by
  have u := h.catchUp
  have frame : s.catchUp.grantFrame.winnersLive := u.congr
  have derive : s.catchUp.grantDerive.winnersLive := u.congr
  have aging : s.catchUp.grantAging.winnersLive := u.congr
  cases c with
  | powerOn | reset => cases e; exact of_atPowerOn s _
  | resetRelease => cases e; exact h.congr
  | partReady =>
    cases e
    split
    · exact h
    · exact h.congr
  | frameWorkStart => cases e; exact h.performChannel.startFrame
  | frameMatch =>
    cases e
    split
    · exact (frame.matchChannel _ _ _ _).continuePart _ _ _ _
    · exact u
  | anchorCheck =>
    cases e
    split
    · exact (frame.checkAnchor _ _ _).continuePart _ _ _ _
    · exact u
  | search =>
    cases e
    split
    · split
      · exact derive.searchFor _
      · exact derive
    · exact u
  | blendStart => cases e; exact h.congr
  | blendComplete => cases e; exact u.completeBlend
  | install =>
    cases e
    split
    · split
      · split
        · exact derive.installFor _ _
        · exact derive
      · exact derive
    · exact u
  | sweepStart => cases e; exact h.startSweep
  | sweepStep =>
    cases e
    split
    · exact aging.sweepBlock _ _
    · exact u
  | gradePortPull => cases e; exact u.congr
  | setChannelPerform => cases e; exact h.performChannel
  | openWord | zoneWord | anchorWord | closeWord | unknownKindWord => exact h.of_exec_word rfl e
  | fetch | fetchCutShort | messageDropped | messageCutShort | selectAborted | malformed =>
    exact h.of_exec_period rfl e
  | place | amend | retire | setState | pin | unpin | clearCounts | readEntry | seek | seekNext | setCursor
  | setProfile | setServiceMatch | stageProfile | setChannel | readChannel | setLearning | readDerivations
  | setClass | openScope | closeScope | readStatus | readCauses | clearCauses | setNoticeMask | restart
  | clearTable => exact h.of_exec_request (by simp [isRequest, encodeMessage]) e
  | placeGrant | amendGrant | retireGrant | setStateGrant | pinGrant | unpinGrant | clearCountsGrant
  | readEntryGrant | seekGrant | seekNextGrant | dropWalk | keepWalk | restartWalk | clearTableWalk =>
    exact h.of_exec_serviceGrant rfl e

end State.winnersLive

/-- Settles O55: the winners stay LIVE through every command, and no word of a pull touches them. -/
theorem stepKeepsWinnersLive : Obligations.StepKeepsWinnersLive :=
  step_keeps (fun _ _ h => h.congr) (fun _ h => h.congr) fun _ _ _ h => h.of_exec

end Sys2Proof.Machine
end

section
/-!
PROOFS. The Grade Channels and the Grade Port: a MATCH that misses (R72), the flap window (R69), the glide (R75 to R77),
the records (R81 to R83) and SET CHANNEL (R85, R86).
-/
namespace Sys2Proof.Machine

-- One theorem after another: many at once would each hold a stack of their own.
set_option Elab.async false

/-! ### A MATCH that misses (R72) -/

/-- A FRAME MATCH granted that misses goes on with the channel's part (R34, R60). -/
theorem exec_frameMatch_of_miss {s : State} {c : Chan} {k : Key} {mode : MatchMode} {w : FrameWork}
    {waiting : Option ClosedFrame} (granted : s.grantsFrame (.matching c k mode) w waiting)
    (miss : s.frameResult k mode (s.channel c).winner = none) :
    exec .frameMatch s =
      .next
        ((s.grantFrame.matchMissed w.frame.number c w.inputs[c]).continuePart w waiting c
          (w.frame.anchorsFor c)) := by
  obtain ⟨settled, grant, closing⟩ := granted
  have miss' : (s.grantFrame.frameMatch k mode (s.grantFrame.channel c).winner).result = none := miss
  simp only [exec, execFrameMatch, State.catchUp_of_settled settled, grant, closing, State.matchChannel, miss']

/-- Settles O15: the channel settles by `Channel.settleMiss`, and its reading is considered before the record. -/
theorem frameMatchMisses : Obligations.FrameMatchMisses := by
  intro s c k mode w waiting r granted miss reading
  rw [exec_frameMatch_of_miss granted miss, reading]
  rfl

/-! ### The flap window and the lock (R69) -/

/-- The next window end on the grid (R69): whole windows from the passed one, the first above the frame number. -/
theorem nextWindowEnd_spec {n e window : Nat} (positive : 1 ≤ window) (passed : e ≤ n) :
    n < e + window * ((n - e) / window + 1) ∧ e + window * ((n - e) / window + 1) ≤ n + window := by
  have low := Nat.lt_mul_div_succ (n - e) positive
  have high := Nat.mul_div_le (n - e) window
  rw [Nat.mul_succ] at low ⊢
  omega

/-- The start of a channel's frame work takes the window end and the switch count from the window's roll (R69). -/
theorem Channel.beginFrame_window (n : Nat) (ch : Channel) :
    (ch.beginFrame n).windowEnd = (ch.rollWindow n).windowEnd ∧
      (ch.beginFrame n).switchCount = (ch.rollWindow n).switchCount := by
  unfold Channel.beginFrame Channel.endLock
  split <;> exact ⟨rfl, rfl⟩

/-- The lock stands at the start of a frame exactly while its end is above the frame number (R69). -/
theorem Channel.lock_beginFrame_iff (n : Nat) (ch : Channel) :
    (ch.beginFrame n).lock = .locked ↔ ch.lock = .locked ∧ n < ch.lockEnd := by
  have lock : (ch.rollWindow n).lock = ch.lock ∧ (ch.rollWindow n).lockEnd = ch.lockEnd := by
    unfold Channel.rollWindow
    split
    · exact ⟨rfl, rfl⟩
    · split <;> exact ⟨rfl, rfl⟩
  obtain ⟨lock, lockEnd⟩ := lock
  unfold Channel.beginFrame Channel.endLock
  rw [lock, lockEnd]
  split
  · next ended => exact iff_of_false nofun fun ⟨_, above⟩ => absurd ended.2 (Nat.not_le.mpr above)
  · next stands =>
    rw [lock]
    exact ⟨fun locked => ⟨locked, Nat.not_le.mp fun passed => stands ⟨locked, passed⟩⟩, And.left⟩

/-- Settles O21: the roll by the window end there was, the lock by its end. -/
theorem flapWindowRollsOnItsGrid : Obligations.FlapWindowRollsOnItsGrid := by
  intro n ch positive
  obtain ⟨windowEnd, switchCount⟩ := ch.beginFrame_window n
  rw [windowEnd, switchCount]
  refine ⟨fun absent => ?_, fun e stands above => ?_, fun e stands passed => ?_, ch.lock_beginFrame_iff n, ?_⟩
  · simp only [Channel.rollWindow, absent, and_self]
  · simp only [Channel.rollWindow, stands, if_neg (Nat.not_le.mpr above), and_self]
  · simp only [Channel.rollWindow, stands, if_pos passed, true_and]
    obtain ⟨low, high⟩ := nextWindowEnd_spec positive passed
    exact ⟨(n - e) / ch.config.flapWindow + 1, by rw [Nat.mul_comm], by rwa [Nat.mul_comm], by rwa [Nat.mul_comm]⟩
  · rw [← windowEnd, ← switchCount]
    exact ch.beginFrame_eq n

/-! ### The glide (R75 to R77) -/

/-- One step of a glide, in the words of the statements (R76). -/
theorem Grade.glideStep_eq (r : Nat) (d t : Grade) :
    Grade.glideStep (r + 2) d t = Grade.zip (fun d t => d + (t - d).tdiv (r + 2)) d t := by
  simp only [Grade.glideStep, Grade.zip, glideValue, Nat.cast_add, Nat.cast_ofNat]

/-- No step is taken before its deadline (R76). -/
theorem glideSteps_of_not_due {n deadline : Nat} (h : n < deadline) (pace : Nat) (target : Grade) (r : Nat)
    (d : Grade) : glideSteps n pace target r deadline d = (r, deadline, d) := by
  cases r with
  | zero => rfl
  | succ r => exact if_neg (Nat.not_le.mpr h)

/-- A step that is due is taken, and then the others that are owed (R76). -/
theorem glideSteps_of_due {n deadline : Nat} (h : deadline ≤ n) (pace : Nat) (target : Grade) (r : Nat) (d : Grade) :
    glideSteps n pace target (r + 1) deadline d =
      glideSteps n pace target r (deadline + pace) (Grade.glideStep (r + 1) d target) :=
  if_pos h

/-- A channel that is GLIDING after its steps, from what the steps give (R76). -/
theorem Channel.advanceGlide_of_gliding (n : Nat) {ch : Channel} (gliding : ch.glide = .gliding) {r deadline : Nat}
    {d : Grade}
    (steps : glideSteps n ch.config.pace ch.target ch.stepsRemaining ch.nextStep ch.delivered = (r, deadline, d)) :
    ch.advanceGlide n =
      if r = 0 then { ch with stepsRemaining := 0, nextStep := deadline, delivered := ch.target, glide := .steady }
      else { ch with stepsRemaining := r, nextStep := deadline, delivered := d } := by
  simp only [Channel.advanceGlide, if_pos gliding, steps]

/-- A GLIDING channel that owes no step stays as it is (R76). -/
theorem Channel.advanceGlide_of_not_due {n : Nat} {ch : Channel} (gliding : ch.glide = .gliding)
    (remaining : ch.stepsRemaining ≠ 0) (h : n < ch.nextStep) : ch.advanceGlide n = ch :=
  (ch.advanceGlide_of_gliding n gliding (glideSteps_of_not_due h _ _ _ _)).trans (if_neg remaining)

/-- A channel after one of several steps (R76). -/
def Channel.stepped (r : Nat) (ch : Channel) : Channel :=
  { ch with
    stepsRemaining := r + 1
    nextStep := ch.nextStep + ch.config.pace
    delivered := Grade.zip (fun d t => d + (t - d).tdiv (r + 2)) ch.delivered ch.target }

/-- A due step of several is taken, and then the others that are owed (R76). -/
theorem Channel.advanceGlide_of_due {n r : Nat} {ch : Channel} (gliding : ch.glide = .gliding)
    (remaining : ch.stepsRemaining = r + 2) (due : ch.nextStep ≤ n) :
    ch.advanceGlide n = (ch.stepped r).advanceGlide n := by
  have same :
      glideSteps n ch.config.pace ch.target ch.stepsRemaining ch.nextStep ch.delivered =
        glideSteps n ch.config.pace ch.target (r + 1) (ch.nextStep + ch.config.pace) (ch.stepped r).delivered := by
    rw [remaining, glideSteps_of_due due, Grade.glideStep_eq]
    rfl
  rw [ch.advanceGlide_of_gliding n gliding same, (ch.stepped r).advanceGlide_of_gliding n gliding rfl]
  rfl

/-- A glide whose owed steps are all due lands on its target (R76). -/
theorem Channel.advanceGlide_lands {n : Nat} {ch : Channel} (gliding : ch.glide = .gliding)
    (due : ch.nextStep + ch.config.pace * (ch.stepsRemaining - 1) ≤ n) :
    ch.advanceGlide n =
      { ch with
        stepsRemaining := 0
        nextStep := ch.nextStep + ch.config.pace * ch.stepsRemaining
        delivered := ch.target
        glide := .steady } := by
  obtain ⟨none_left, deadline⟩ :=
    glideSteps_lands n ch.config.pace ch.target ch.stepsRemaining ch.nextStep ch.delivered due
  rw [ch.advanceGlide_of_gliding n gliding rfl, if_pos none_left, deadline]

/-- The twelve values of a grade. -/
def gradeValues : List (Grade → Int) :=
  [Grade.gR, Grade.gG, Grade.gB, Grade.m11, Grade.m12, Grade.m13, Grade.m21, Grade.m22, Grade.m23, Grade.m31,
    Grade.m32, Grade.m33]

/-- Each value of a grade formed value by value is formed from the same value of the two. -/
theorem Grade.value_zip (f : Int → Int → Int) (a b : Grade) :
    ∀ v ∈ gradeValues, v (Grade.zip f a b) = f (v a) (v b) := by
  simp [gradeValues, Grade.zip]

/-- Glide steps keep a value within every range that holds where it stood and its target (R76, R77). -/
theorem glideSteps_within (n pace : Nat) {target : Grade} {v : Grade → Int} (hv : v ∈ gradeValues) {lo hi : Int}
    (ht : lo ≤ v target ∧ v target ≤ hi) (r deadline : Nat) {d : Grade} (hd : lo ≤ v d ∧ v d ≤ hi) :
    lo ≤ v (glideSteps n pace target r deadline d).2.2 ∧ v (glideSteps n pace target r deadline d).2.2 ≤ hi := by
  induction r generalizing deadline d with
  | zero => exact hd
  | succ r ih =>
    unfold glideSteps
    split
    · refine ih (deadline + pace) ?_
      rw [Grade.glideStep, Grade.value_zip _ _ _ v hv]
      exact glideValue_within (r + 1) hd ht
    · exact hd

/-- The glide keeps each value between where it stood and its target (R76, R77). -/
theorem Channel.delivered_advanceGlide_within (n : Nat) (ch : Channel) {v : Grade → Int} (hv : v ∈ gradeValues) :
    min (v ch.delivered) (v ch.target) ≤ v (ch.advanceGlide n).delivered ∧
      v (ch.advanceGlide n).delivered ≤ max (v ch.delivered) (v ch.target) := by
  have stood : min (v ch.delivered) (v ch.target) ≤ v ch.delivered ∧
      v ch.delivered ≤ max (v ch.delivered) (v ch.target) := ⟨min_le_left _ _, le_max_left _ _⟩
  have aimed : min (v ch.delivered) (v ch.target) ≤ v ch.target ∧
      v ch.target ≤ max (v ch.delivered) (v ch.target) := ⟨min_le_right _ _, le_max_right _ _⟩
  unfold Channel.advanceGlide
  split
  · simp only
    split
    · exact aimed
    · exact glideSteps_within n _ hv aimed _ _ stood
  · exact stood

/-- Settles O22: the restart by `Channel.retarget`, the steps by what each does, the range by
`Channel.delivered_advanceGlide_within`. -/
theorem glideMovesTowardTarget : Obligations.GlideMovesTowardTarget := by
  intro n ch
  refine ⟨if_pos rfl, fun g changed at_once => (if_neg changed).trans (if_pos at_once),
    fun g changed gradual => (if_neg changed).trans (if_neg gradual), fun steady => ?steady,
    fun gliding remaining early => Channel.advanceGlide_of_not_due gliding (Nat.ne_of_gt remaining) early,
    fun r gliding remaining due last => ?one, fun r => Channel.advanceGlide_of_due, Channel.advanceGlide_lands,
    fun v hv _ => ch.delivered_advanceGlide_within n hv⟩
  case steady => exact if_neg (by rw [steady]; simp)
  case one =>
    rw [Channel.advanceGlide_of_due gliding remaining due]
    exact Channel.advanceGlide_of_not_due (ch := ch.stepped r) gliding (Nat.succ_ne_zero r) last

/-! ### The Grade Port (R81 to R83) -/

/-- The record a full queue gives up is the oldest of the channel (R83). -/
theorem supersede_of_own {c : Chan} {before after : List GradeRecord} {q : GradeRecord}
    (others : ∀ b ∈ before, b.channel ≠ c) (own : q.channel = c) :
    supersede c (before ++ q :: after) = before ++ after := by
  have any : (before ++ q :: after).any (fun r => r.channel == c) = true := by simp [own]
  rw [supersede, if_pos any, List.eraseP_append_right _ (by simpa using others),
    List.eraseP_cons_of_pos (by simpa using own)]

/-- A full queue with no record of the channel gives up its oldest (R83). -/
theorem supersede_of_others {c : Chan} {l : List GradeRecord} (others : ∀ b ∈ l, b.channel ≠ c) :
    supersede c l = l.tail :=
  if_neg (by simpa using others)

/-- A record handed over to a queue with room (R82). -/
theorem State.emit_of_room {s : State} (room : s.port.queue.length < 8) (r : GradeRecord) :
    s.emit r = { s with port := { s.port with queue := s.port.queue ++ [r] } } :=
  if_pos room

/-- A record handed over to a full queue (R83). -/
theorem State.emit_of_full {s : State} (full : 8 ≤ s.port.queue.length) (r : GradeRecord) :
    s.emit r =
      { s with
        port := { s.port with queue := supersede r.channel s.port.queue ++ [r] }
        notices := s.notices.raised .gradeOverrun r.channel.val } :=
  if_neg (Nat.not_lt.mpr full)

/-- Settles O23: the record goes to a queue with room or to a full one, and a pull takes the oldest. -/
theorem gradePortQueuesRecords : Obligations.GradePortQueuesRecords := by
  refine ⟨?_, fun s settled => ⟨fun r l w rest queue words => ?record, fun empty => ?empty⟩⟩
  · rintro s n c outcome ch r rfl rfl
    refine ⟨fun room => State.emit_of_room (s := s.setChannel c _) room _, fun full => ?_⟩
    have delivered := State.emit_of_full (s := s.setChannel c ((s.channel c).advanceGlide n)) full
      (((s.channel c).advanceGlide n).record n c outcome)
    refine ⟨fun before q after queue others own => delivered.trans ?_, fun others => delivered.trans ?_⟩
    · have kept : supersede c s.port.queue = before ++ after := by rw [queue, supersede_of_own others own]
      simp only [Channel.record, State.setChannel_port, kept]
      rfl
    · simp only [Channel.record, State.setChannel_port, supersede_of_others others]
      rfl
  case record =>
    simp only [exec, execGradePortPull, State.catchUp_of_settled settled, GradePort.pull, GradePort.oldestWords, queue,
      words, List.tail_cons, List.take_succ_cons, List.take_zero]
  case empty =>
    simp only [exec, execGradePortPull, State.catchUp_of_settled settled, GradePort.pull, GradePort.oldestWords, empty,
      emptyIndication, List.tail_nil, List.tail_cons, List.take_succ_cons, List.take_zero]

/-! ### SET CHANNEL (R85, R86) -/

/-- A channel number out of range names none. -/
theorem channelOf_of_le {n : Nat} (h : 4 ≤ n) : channelOf n = none := dif_neg (Nat.not_lt.mpr h)

/-- A channel has frame work in progress from the start of the frame in work until its part ends (R68). -/
theorem State.inWork_iff (s : State) (c : Chan) :
    s.inWork c = true ↔
      ∃ w waiting, s.path.closing = .busy w waiting ∧ w.inputs[c] ≠ .outside ∧ w.channel ≤ c := by
  unfold State.inWork
  split
  · next w waiting closing => simp [closing]
  · next not_busy =>
    exact iff_of_false Bool.false_ne_true fun ⟨w, waiting, closing, _⟩ => not_busy w waiting closing

/-- A SET CHANNEL with a number or a value out of range (R85). -/
theorem State.takeSetChannel_of_out {s : State} {n : Nat} {f : ChannelFields} (h : 4 ≤ n ∨ ¬f.inRange) :
    s.takeSetChannel n f = s.refuse .range := by
  unfold State.takeSetChannel
  rcases h with number | values
  · rw [channelOf_of_le number]
  · split
    · exact if_neg (mt (channelFieldsOk_iff f).mp values)
    · rfl

/-- A SET CHANNEL in range is performed, or waits for its channel's frame work (R85, R86). -/
theorem State.takeSetChannel_of_inRange {s : State} (c : Chan) {f : ChannelFields} (h : f.inRange) :
    s.takeSetChannel c.val f =
      if s.inWork c then s.setLink { s.link with state := .working (.setChannel c f) } else s.writeChannel c f := by
  unfold State.takeSetChannel
  rw [channelOf_val]
  exact if_pos ((channelFieldsOk_iff f).mpr h)

/-- A waiting SET CHANNEL whose channel has no frame work in progress is performed (R86). -/
theorem State.performChannel_of_due {s : State} {c : Chan} {f : ChannelFields}
    (waits : s.link.state = .working (.setChannel c f)) (free : s.inWork c = false) :
    s.performChannel = s.writeChannel c f := by
  simp only [State.performChannel, waits, free, Bool.false_eq_true, if_false]

/-- The carried fields written into a configuration (R85). -/
theorem ChannelConfig.write_eq (g : ChannelConfig) (f : ChannelFields) :
    g.write f =
      { enabled := match f.enabled with
          | some v => decide (v = 1)
          | none => g.enabled
        zoneSet := match f.zoneSet with
          | some v => BitVec.ofNat 16 v
          | none => g.zoneSet
        glideLength := f.glideLength.getD g.glideLength
        pace := f.pace.getD g.pace
        flapLimit := f.flapLimit.getD g.flapLimit
        flapWindow := f.flapWindow.getD g.flapWindow
        learn := match f.learn with
          | some v => decide (v = 1)
          | none => g.learn
        learnClass := match f.learnClass with
          | some v => Fin.ofNat 4 v
          | none => g.learnClass
        learnWeight := f.learnWeight.getD g.learnWeight } := by
  obtain ⟨enabled, zoneSet, glideLength, pace, flapLimit, flapWindow, learn, learnClass, learnWeight⟩ := f
  cases enabled <;> cases zoneSet <;> cases learn <;> cases learnClass <;> rfl

/-- A SET CHANNEL performed writes the configuration, and clears the working state at a disable (R85). -/
theorem Channel.write_eq (ch : Channel) (f : ChannelFields) :
    ch.write f =
      if ch.config.enabled = true ∧ (ch.config.write f).enabled = false then
        Channel.disabled { ch with config := ch.config.write f }
      else { ch with config := ch.config.write f } := by
  simp [Channel.write]

/-- Settles O25: the taking by range and frame work, the performing by `Channel.write_eq`. -/
theorem setChannelIsPerformedOrWaits : Obligations.SetChannelIsPerformedOrWaits := by
  intro channel f s
  refine ⟨s.inWork_iff, fun listens => ?taken, fun c waits free => ?performed, fun ch g hg => ?written⟩
  case taken =>
    have taken {t : State} (e : s.taking.takeSetChannel channel f = t) : exec (.setChannel channel f) s = .next t :=
      congrArg _ ((State.takeMessage_of_listens listens _).trans e)
    refine ⟨fun out => taken (State.takeSetChannel_of_out out), ?_⟩
    rintro c rfl inRange
    have judged := State.takeSetChannel_of_inRange (s := s.taking) c inRange
    exact ⟨fun free => taken (judged.trans (if_neg (Bool.eq_false_iff.mp free))),
      fun busy => taken (judged.trans (if_pos busy))⟩
  case performed => exact congrArg _ (State.performChannel_of_due waits free)
  case written =>
    obtain rfl := hg.trans (ch.config.write_eq f).symm
    exact ⟨fun disables => (ch.write_eq f).trans (if_pos disables),
      fun keeps => (ch.write_eq f).trans (if_neg keeps)⟩

end Sys2Proof.Machine
end

section
/-!
PROOFS. The reports and the requests on causes (R87, R110, R171 to R173), the front of the queue of commands (log
entries 1 and 18), and the invariants at power-on.
-/
namespace Sys2Proof.Machine

-- One theorem after another: many at once would each hold a stack of their own.
set_option Elab.async false

/-! ### The causes (R170 to R172) -/

/-- The attention line is asserted while a cause is both pending and enabled and RESET is not asserted (R171). -/
theorem State.attention_iff (s : State) :
    s.attention = true ↔
      s.lines.resetAsserted = false ∧
        ∃ i : Fin 13, (s.notices.causes[i] : Notice).pending = true ∧ s.notices.mask.getLsbD i.val = true := by
  simp [State.attention]

/-- A cause after the flags of a set are cleared: its flag stands when it is not in the set, its detail always
(R172). -/
theorem NoticeUnit.causes_clear (u : NoticeUnit) (set : Nat) (i : Fin 13) :
    ((u.clear set).causes[i] : Notice) =
      { pending := (u.causes[i] : Notice).pending && !set.testBit i.val
        detail := (u.causes[i] : Notice).detail } := by
  have cleared := Vec.getElem_mapIdx
    (fun (i : Fin 13) (n : Notice) => if set.testBit i.val then { n with pending := false } else n) u.causes i
  refine cleared.trans ?_
  split
  · next named => simp [named]
  · next other => simp [other]

/-- A set beyond the thirteen causes is out of range (R171, R172). -/
theorem causeSetOk_of_le {n : Nat} (h : 8192 ≤ n) : ¬causeSetOk n = true := by
  simpa [causeSetOk] using h

/-- A set of the thirteen causes is in range (R171, R172). -/
theorem causeSetOk_of_lt {n : Nat} (h : n < 8192) : causeSetOk n = true := decide_eq_true h

/-! ### The reports (R87, R110, R173) -/

/-- READ CHANNEL with a number out of range (R87). -/
theorem State.readChannel_of_le {s : State} {n : Nat} (h : 4 ≤ n) : s.readChannel n = s.refuse .range := by
  unfold State.readChannel
  rw [channelOf_of_le h]

/-- READ CHANNEL returns the channel's record (R87). -/
theorem State.readChannel_val (s : State) (c : Chan) :
    s.readChannel c.val = s.done (.channel (s.channel c)) := by
  unfold State.readChannel
  rw [channelOf_val]

/-- Settles O47: each report is read off the state at the taking, and a set of causes is judged by its range. -/
theorem reportsAndCauses : Obligations.ReportsAndCauses := by
  refine ⟨State.attention_iff, fun s listens => ?_⟩
  have taken (f : State → State) {t : State} (e : f s.taking = t) :
      (.next (s.catchUp.takeMessage f) : Result) = .next t :=
    congrArg _ ((State.takeMessage_of_listens listens f).trans e)
  exact ⟨fun n out => taken _ (State.readChannel_of_le out), fun c => taken _ (State.readChannel_val s.taking c),
    taken _ rfl, taken _ rfl, taken _ rfl,
    fun n out => ⟨taken _ (if_neg (causeSetOk_of_le out)), taken _ (if_neg (causeSetOk_of_le out))⟩,
    fun n ok => ⟨taken _ (if_pos (causeSetOk_of_lt ok)), (s.notices.clear n).causes,
      taken _ (if_pos (causeSetOk_of_lt ok)), s.notices.causes_clear n⟩⟩

/-! ### The queue of commands -/

/-- Settles O1: by the definition of a step, and of the pull in progress. -/
theorem stepTakesFrontCommand : Obligations.StepTakesFrontCommand := by
  refine ⟨fun c rest s => rfl, fun s empty => ?_⟩
  have delivers : step s = .next s.deliverWord := by rw [step, empty]
  refine ⟨fun none_left => delivers.trans (congrArg _ (State.deliverWord_of_none none_left)), fun w l words => ?_⟩
  simp only [delivers, State.deliverWord, GradePort.advance, words]

/-! ### Power-on -/

/-- At power-on no request is queued and no channel refers to one (R67, R111). -/
theorem State.derivationsHold_reset : State.reset.derivationsHold := by
  have unreferred : ∀ c, (State.reset.channel c).pendingDerivation = none := by decide
  refine ⟨List.nodup_nil, List.nodup_nil, List.forall_mem_nil _, Nat.zero_le _, fun c n refers => ?_⟩
  rw [unreferred c] at refers
  cases refers

/-- At power-on the queues and the buffer are empty, no tick is pending, and the descriptors are sound (R84, R112,
R115). -/
theorem State.boundsHold_reset : State.reset.boundsHold := by
  unfold State.boundsHold ClassDescriptor.holds
  decide

/-- Settles O59: the reset state is the part at a power-on, which meets the rules of scopes and grades and has no
winner; the other invariants are read off it. -/
theorem powerOnMeetsTheInvariants : Obligations.PowerOnMeetsTheInvariants :=
  ⟨State.winnersLive.of_atPowerOn State.reset { resetAsserted := false, ready := true },
    State.reset.scopesHold_iff.mpr (State.Obeys.atPowerOn (s := State.reset) scopeRules_serves _),
    State.derivationsHold_reset, rfl, State.boundsHold_reset, fun _ opened => (by cases opened),
    State.reset.gradesHold_iff.mpr (State.Obeys.atPowerOn (s := State.reset) gradeRules_serves _)⟩

end Sys2Proof.Machine
end

section
/-!
PROOFS. The derivation queue: a request rewritten in its place (R91), a miss considered for learning (R90, R92 to R94)
and the unit's choice (R95).
-/
namespace Sys2Proof.Machine

-- One theorem after another: many at once would each hold a stack of their own.
set_option Elab.async false

/-! ### A request of the queue by its number (R90) -/

/-- The one request of a number rewritten in its place. -/
theorem updateRequest_split {n : Nat} (f : Derivation → Derivation) {before after : List Derivation} {q : Derivation}
    (named : q.number = n) (others : ∀ p ∈ before ++ after, p.number ≠ n) :
    updateRequest n f (before ++ q :: after) = before ++ f q :: after := by
  obtain ⟨earlier, later⟩ := List.forall_mem_append.mp others
  have stand {l : List Derivation} (h : ∀ p ∈ l, p.number ≠ n) :
      l.map (fun p => if p.number = n then f p else p) = l :=
    (List.map_congr_left fun p hp => if_neg (h p hp)).trans (List.map_id' l)
  rw [updateRequest, List.map_append, List.map_cons, stand earlier, stand later, if_pos named]

/-- The request a number names is the one that holds it. -/
theorem State.request_split {s : State} {n : Nat} {before after : List Derivation} {q : Derivation}
    (queue : s.derive.queue = before ++ q :: after) (named : q.number = n)
    (others : ∀ p ∈ before ++ after, p.number ≠ n) : s.request n = some q := by
  refine List.find?_eq_some_iff_append.mpr ⟨by simpa using named, before, after, queue, fun p hp => ?_⟩
  simpa using others p (List.mem_append_left after hp)

/-- The request a number names is queued under that number. -/
theorem State.mem_of_request {s : State} {n : Nat} {q : Derivation} (h : s.request n = some q) :
    q ∈ s.derive.queue ∧ q.number = n :=
  ⟨List.mem_of_find?_eq_some h, by simpa using List.find?_some h⟩

/-! ### The unit's choice (R95) -/

section
variable {s : State}

/-- The unit chooses nothing while an operation waits (R95). -/
theorem State.chooseDerive_of_busy {op : DeriveOp} (busy : s.arbiter.derive = some op) : s.chooseDerive = s := by
  simp only [State.chooseDerive, busy]

/-- The unit chooses nothing when no request is queued (R95). -/
theorem State.chooseDerive_of_empty (empty : s.derive.queue = []) : s.chooseDerive = s := by
  unfold State.chooseDerive
  rw [empty]
  split <;> rfl

/-- The unit submits an INSTALL for an oldest request that is READY (R95). -/
theorem State.chooseDerive_of_ready (free : s.arbiter.derive = none) {q : Derivation} {l : List Derivation}
    (queue : s.derive.queue = q :: l) (ready : q.stage = .ready) :
    s.chooseDerive = { s with arbiter := { s.arbiter with derive := some (.install q.number) } } := by
  simp only [State.chooseDerive, free, queue, if_pos ready, State.submitDerive]

/-- The unit chooses nothing when the oldest request is not READY and none is WAITING (R95). -/
theorem State.chooseDerive_of_none_waiting (free : s.arbiter.derive = none) {q : Derivation} {l : List Derivation}
    (queue : s.derive.queue = q :: l) (unready : q.stage ≠ .ready) (none_waiting : ∀ p ∈ q :: l, p.stage ≠ .waiting) :
    s.chooseDerive = s := by
  have not_found : (q :: l).find? (fun w => w.stage == .waiting) = none :=
    List.find?_eq_none.mpr fun p hp => by simpa using none_waiting p hp
  simp only [State.chooseDerive, free, queue, if_neg unready, not_found]

/-- The unit submits a SEARCH for the oldest WAITING request when the oldest request is not READY (R95). -/
theorem State.chooseDerive_of_waiting (free : s.arbiter.derive = none) {q p : Derivation}
    {l before after : List Derivation} (queue : s.derive.queue = q :: l) (unready : q.stage ≠ .ready)
    (split : q :: l = before ++ p :: after) (oldest : ∀ b ∈ before, b.stage ≠ .waiting) (waiting : p.stage = .waiting)
    (others : ∀ b ∈ before ++ after, b.number ≠ p.number) :
    s.chooseDerive =
      { s with
        derive := { s.derive with queue := before ++ { p with stage := .searching } :: after }
        arbiter := { s.arbiter with derive := some (.search p.number) } } := by
  have found : (q :: l).find? (fun w => w.stage == .waiting) = some p :=
    List.find?_eq_some_iff_append.mpr
      ⟨by simpa using waiting, before, after, split, fun b hb => by simpa using oldest b hb⟩
  have searching := updateRequest_split (fun r => { r with stage := .searching }) rfl others
  rw [← split, ← queue] at searching
  simp only [State.chooseDerive, free, queue, if_neg unready, found]
  unfold State.updateRequest
  rw [searching]
  rfl

end

/-- Settles O17: one lemma for each case of R95. -/
theorem derivationUnitChooses : Obligations.DerivationUnitChooses := fun _ =>
  ⟨fun _ => State.chooseDerive_of_busy, fun free =>
    ⟨State.chooseDerive_of_empty, fun _ _ => State.chooseDerive_of_ready free, fun _ _ queue unready =>
      ⟨State.chooseDerive_of_none_waiting free queue unready,
        fun _ _ _ => State.chooseDerive_of_waiting free queue unready⟩⟩⟩

/-! ### The number of a new request (R90) -/

/-- With more tries than held numbers the number taken is free, and those passed over are held (R90). -/
theorem pickNumber_free {held : List Nat} {tries n : Nat} (few : held.length < tries) (round : tries ≤ 256)
    (hn : n ≤ 255) :
    ∃ k, pickNumber held tries n = (n + k) % 256 ∧ pickNumber held tries n ∉ held ∧
      ∀ j < k, (n + j) % 256 ∈ held := by
  obtain ⟨k, -, number, free, passed⟩ := pickNumber_spec held tries n hn
  refine ⟨k, number, free (Nat.lt_of_not_le fun all => ?_), passed⟩
  have distinct : ((List.range tries).map fun j => (n + j) % 256).Nodup := by
    refine List.Nodup.map_on (fun i hi j hj e => ?_) List.nodup_range
    rw [List.mem_range] at hi hj
    omega
  have tried_held : (List.range tries).map (fun j => (n + j) % 256) ⊆ held := by
    intro m hm
    obtain ⟨j, hj, rfl⟩ := List.mem_map.mp hm
    exact passed j (Nat.lt_of_lt_of_le (List.mem_range.mp hj) all)
  have bound := (distinct.subperm tried_held).length_le
  rw [List.length_map, List.length_range] at bound
  omega

/-- The next number is the one taken when no queued request holds it (R90). -/
theorem DerivationUnit.newNumber_of_free {d : DerivationUnit} (free : ∀ p ∈ d.queue, p.number ≠ d.nextNumber) :
    d.newNumber = d.nextNumber := by
  have unheld : ¬(d.queue.map fun q => q.number).contains d.nextNumber = true := by simpa using free
  exact if_neg unheld

/-- A queue of at most four leaves one of five numbers free (R90). -/
theorem DerivationUnit.newNumber_spec {d : DerivationUnit} (few : d.queue.length ≤ 4) (range : d.nextNumber ≤ 255) :
    ∃ k, d.newNumber = (d.nextNumber + k) % 256 ∧ (∀ p ∈ d.queue, p.number ≠ d.newNumber) ∧
      ∀ j < k, ∃ p ∈ d.queue, p.number = (d.nextNumber + j) % 256 := by
  have five : (d.queue.map fun q => q.number).length < 5 := by
    rw [List.length_map]
    exact Nat.lt_succ_of_le few
  obtain ⟨k, number, free, passed⟩ := pickNumber_free five (by decide) range
  exact ⟨k, number, fun p hp e => free (List.mem_map.mpr ⟨p, hp, e⟩), fun j hj => List.mem_map.mp (passed j hj)⟩

/-! ### A miss considered (R92 to R94) -/

/-- The three conditions on which a channel considers its miss (R92). -/
theorem Channel.considers_iff (w : Nat) (ch : Channel) :
    ch.considers w = true ↔
      ch.config.learn = true ∧ ch.config.learnWeight ≤ w ∧ ch.pendingDerivation = none := by
  simp [Channel.considers, and_assoc]

/-- A queued request coalesces a miss of its tag that it matches (R93). -/
theorem Derivation.coalesces_iff (p : Profile) (k : Key) (q : Derivation) :
    q.coalesces p k = true ↔ q.key.tag = k.tag ∧ p.admits k q.key = true := by
  simp [Derivation.coalesces]

section
variable {s : State} {c : Chan} {r : ChannelReading} {n : Nat}

/-- A miss that fails one of the three conditions changes nothing (R92). -/
theorem State.considerMiss_of_not_considers
    (fails : (s.channel c).config.learn = false ∨ r.weight < (s.channel c).config.learnWeight ∨
      (s.channel c).pendingDerivation ≠ none) : s.considerMiss c r n = s := by
  refine if_neg fun considers => ?_
  obtain ⟨learn, weight, free⟩ := (Channel.considers_iff _ _).mp considers
  rcases fails with off | light | pending
  · exact Bool.false_ne_true (off.symm.trans learn)
  · exact Nat.not_le.mpr light weight
  · exact pending free

/-- A miss joins the oldest request that coalesces it (R93). -/
theorem State.considerMiss_of_coalesced (considers : (s.channel c).considers r.weight = true)
    {before after : List Derivation} {q : Derivation} (queue : s.derive.queue = before ++ q :: after)
    (oldest : ∀ p ∈ before, ¬p.coalesces s.frameProfile r.key = true)
    (joined : q.coalesces s.frameProfile r.key = true) :
    s.considerMiss c r n = s.setPendingDerivation c q.number := by
  have found : s.derive.queue.find? (Derivation.coalesces s.frameProfile r.key) = some q :=
    List.find?_eq_some_iff_append.mpr
      ⟨joined, before, after, queue, fun p hp => by simpa using oldest p hp⟩
  simp only [State.considerMiss, if_pos considers, found]

/-- A miss that is not coalesced is deferred when its channel has a request queued, and issues one otherwise (R94). -/
theorem State.considerMiss_of_not_coalesced (considers : (s.channel c).considers r.weight = true)
    (apart : ∀ p ∈ s.derive.queue, ¬p.coalesces s.frameProfile r.key = true) :
    s.considerMiss c r n =
      if ∃ p ∈ s.derive.queue, p.channel = c then s.raise .learnDeferred c.val else s.issue c r n := by
  have not_found : s.derive.queue.find? (Derivation.coalesces s.frameProfile r.key) = none :=
    List.find?_eq_none.mpr apart
  simp only [State.considerMiss, if_pos considers, not_found, List.any_eq_true, beq_iff_eq]

end

/-- Settles O16: the conditions of R92, then the three outcomes of R93 and R94. -/
theorem missIsConsidered : Obligations.MissIsConsidered := by
  intro s c r n
  refine ⟨State.considerMiss_of_not_considers, fun learn weight free => ?_⟩
  have considers := (Channel.considers_iff r.weight (s.channel c)).mpr ⟨learn, weight, free⟩
  simp only [← Derivation.coalesces_iff]
  refine ⟨fun before q after queue oldest tag admits => ?joined, fun apart => ?apart⟩
  case joined =>
    exact State.considerMiss_of_coalesced considers queue oldest ((Derivation.coalesces_iff _ _ _).mpr ⟨tag, admits⟩)
  case apart =>
    have outcome := State.considerMiss_of_not_coalesced (n := n) considers apart
    refine ⟨fun own => outcome.trans (if_pos own), fun none_own => ⟨s.derive.newNumber, ?_, ?_, ?_⟩⟩
    · exact DerivationUnit.newNumber_of_free
    · exact DerivationUnit.newNumber_spec
    · exact outcome.trans (if_neg fun ⟨p, hp, own⟩ => none_own p hp own)

end Sys2Proof.Machine
end

section
/-!
PROOFS. The SEARCH: its candidates and their order (R96), and what a request's ending leaves (R97, R106, R107).
-/
namespace Sys2Proof.Machine

-- One theorem after another: many at once would each hold a stack of their own.
set_option Elab.async false

/-! ### The candidates (R96) -/

/-- The distance of two keys in a SEARCH, without wrap (R96). -/
theorem searchDistance_eq_natAbs (k e : Key) :
    searchDistance k e = ((e.u : Int) - k.u).natAbs + ((e.v : Int) - k.v).natAbs := by
  rw [searchDistance, absDiff_comm k.u, absDiff_comm k.v, absDiff_eq_natAbs, absDiff_eq_natAbs]

/-- A candidate is LIVE, agrees in tag, and lies within the learning reach and the learning radius (R96). -/
theorem Cell.isCandidate_iff (p : Profile) (k : Key) (c : Cell) :
    c.isCandidate p k = true ↔
      ∃ e x, c.holdsLive e x ∧ (e.key.tag = k.tag ∨ p.tagMode = .any) ∧
        ((e.key.level : Int) - k.level).natAbs ≤ p.learningReach ∧
        ((e.key.u : Int) - k.u).natAbs + ((e.key.v : Int) - k.v).natAbs ≤ p.learningRadius := by
  have judged (e : Entry) :
      (tagsAgree p.tagMode k.tag e.key.tag && decide (absDiff k.level e.key.level ≤ p.learningReach) &&
          decide (searchDistance k e.key ≤ p.learningRadius)) = true ↔
        (e.key.tag = k.tag ∨ p.tagMode = .any) ∧ ((e.key.level : Int) - k.level).natAbs ≤ p.learningReach ∧
          ((e.key.u : Int) - k.u).natAbs + ((e.key.v : Int) - k.v).natAbs ≤ p.learningRadius := by
    rw [absDiff_comm, absDiff_eq_natAbs, searchDistance_eq_natAbs]
    simp [tagsAgree, and_assoc, eq_comm (a := k.tag)]
  constructor
  · intro h
    unfold Cell.isCandidate at h
    split at h
    · next e x live => exact ⟨e, x, Cell.live_eq_some live, (judged e).mp h⟩
    · cases h
  · rintro ⟨e, x, live, within⟩
    simp only [Cell.isCandidate, Cell.live_of_holdsLive live]
    exact (judged e).mpr within

/-- The distance of a slot that holds an entry is its key's (R96). -/
theorem Cell.distanceFrom_of_entry {c : Cell} {e : Entry} (h : c.entry = some e) (k : Key) :
    c.distanceFrom k = ((e.key.u : Int) - k.u).natAbs + ((e.key.v : Int) - k.v).natAbs := by
  simp only [Cell.distanceFrom, h, searchDistance_eq_natAbs]

/-- The grade of a LIVE slot. -/
theorem Cell.grade?_of_holdsLive {c : Cell} {e : Entry} {x : Illuminant} (h : c.holdsLive e x) :
    c.grade? = some x.grade := by
  obtain ⟨entry, body⟩ := h
  simp only [Cell.grade?, entry, body]

/-! ### The slots taken (R96) -/

/-- The candidates of a SEARCH in the order in which it takes them (R96). -/
def State.ordered (s : State) (k : Key) : List Slot :=
  byDistance (fun i => (s.cell i).distanceFrom k) (slots.filter fun i => (s.cell i).isCandidate s.frameProfile k)

/-- A SEARCH takes the first three of its candidates in order (R96). -/
theorem State.nearest_eq (s : State) (k : Key) : s.nearest k = (s.ordered k).take 3 := rfl

/-- The candidates in order are all the candidates (R96). -/
theorem State.mem_ordered (s : State) (k : Key) (i : Slot) :
    i ∈ s.ordered k ↔ (s.cell i).isCandidate s.frameProfile k = true := by
  rw [State.ordered, (byDistance_perm _ _).mem_iff]
  simp

/-- The candidates stand nearest first, ties by lower slot (R96). -/
theorem State.ordered_pairwise (s : State) (k : Key) :
    (s.ordered k).Pairwise (nearer fun i => (s.cell i).distanceFrom k) :=
  byDistance_pairwise _ (slots_sorted.filter _)

/-- Every slot a SEARCH takes is a candidate (R96). -/
theorem State.isCandidate_of_mem_nearest {s : State} {k : Key} {i : Slot} (h : i ∈ s.nearest k) :
    (s.cell i).isCandidate s.frameProfile k = true :=
  (s.mem_ordered k i).mp (List.mem_of_mem_take h)

/-- What is left out of the first `n` of a list in order comes after `n` others. -/
theorem take_of_left_out {α : Type} {r : α → α → Prop} {l : List α} (hl : l.Pairwise r) {n : Nat} {j : α}
    (hj : j ∈ l) (left_out : j ∉ l.take n) : (l.take n).length = n ∧ ∀ i ∈ l.take n, r i j := by
  have rest : j ∈ l.drop n := by
    rw [← List.take_append_drop n l] at hj
    exact (List.mem_append.mp hj).resolve_left left_out
  have more := List.length_pos_of_mem rest
  rw [List.length_drop] at more
  rw [← List.take_append_drop n l, List.pairwise_append] at hl
  obtain ⟨-, -, before⟩ := hl
  exact ⟨List.length_take_of_le (by omega), fun i hi => before i hi j rest⟩

/-- Two distances that agree on two slots order them alike. -/
theorem nearer_of_eq {d d' : Slot → Nat} {i j : Slot} (hi : d i = d' i) (hj : d j = d' j) (h : nearer d i j) :
    nearer d' i j := by
  rwa [nearer, ← hi, ← hj]

/-- Settles O26: the slots taken are the first three of the candidates in order. -/
theorem searchTakesNearestCandidates : Obligations.SearchTakesNearestCandidates := by
  intro s k candidate distance hcandidate hdistance
  have candidate_iff (i : Slot) : candidate i ↔ (s.cell i).isCandidate s.frameProfile k = true :=
    (hcandidate i).trans (Cell.isCandidate_iff _ _ _).symm
  have same {i : Slot} (hi : candidate i) : (s.cell i).distanceFrom k = distance i := by
    obtain ⟨e, x, ⟨entry, -⟩, -⟩ := (hcandidate i).mp hi
    rw [Cell.distanceFrom_of_entry entry, hdistance i e entry]
  have taken (i : Slot) (hi : i ∈ s.nearest k) : candidate i :=
    (candidate_iff i).mpr (State.isCandidate_of_mem_nearest hi)
  refine ⟨s.nearest_length k, taken, ?_, fun j hj left_out => ?_⟩
  · refine ((s.ordered_pairwise k).sublist (List.take_sublist 3 _)).imp_of_mem fun hi hj => ?_
    exact nearer_of_eq (same (taken _ hi)) (same (taken _ hj))
  · obtain ⟨three, before⟩ :=
      take_of_left_out (s.ordered_pairwise k) ((s.mem_ordered k j).mpr ((candidate_iff j).mp hj)) left_out
    exact ⟨three, fun i hi => nearer_of_eq (same (taken i hi)) (same hj) (before i hi)⟩

/-! ### A request leaves the queue by an ending (R106, R107) -/

/-- The numbers that go with the request of one number are that number. -/
theorem mem_goneNumbers_iff {q : Derivation} {l : List Derivation} (queued : q ∈ l) (n : Nat) :
    n ∈ goneNumbers (fun r => r.number == q.number) l ↔ n = q.number := by
  simp only [goneNumbers, List.mem_map, List.mem_filter, beq_iff_eq]
  exact ⟨fun ⟨r, ⟨_, same⟩, e⟩ => e.symm.trans same, fun e => ⟨q, ⟨queued, rfl⟩, e.symm⟩⟩

section
variable {gone : List Nat} {n : Nat} (only : ∀ m, m ∈ gone ↔ m = n)
include only

/-- A channel loses its reference to the one request that goes (R106). -/
theorem Channel.loseDerivation_eq_forgets (ch : Channel) : ch.loseDerivation gone = ch.forgets n := by
  unfold Channel.loseDerivation Channel.forgets
  cases ch.pendingDerivation with
  | none => rfl
  | some m => simp [only]

/-- A blend in progress loses the one request that goes (R98). -/
theorem Blend.orphan_eq_without (b : Blend) : b.orphan gone = b.without [n] := by
  unfold Blend.orphan Blend.without
  cases b.request with
  | none => rfl
  | some m => simp [only]

/-- A blend that waits to start does not start when it serves the one request that goes (R98). -/
theorem Blend.not_serves_eq_startsWithout (b : Blend) : (!b.serves gone) = b.startsWithout [n] := by
  unfold Blend.serves Blend.startsWithout
  cases b.request with
  | none => rfl
  | some m => simp [only]

end

/-- A queued request that ends after the grant of DERIVE's operation leaves the queue with all that refers to it, and the
unit chooses (R95, R106, R107). -/
theorem State.endsRequest_endRequest {s : State} {q : Derivation} (queued : q ∈ s.derive.queue) (e : Ending)
    (notices : NoticeUnit) :
    s.endsRequest (State.chooseDerive { s.grantDerive.endRequest q e with notices := notices }) q e notices := by
  have only := mem_goneNumbers_iff queued
  refine ⟨{ s.grantDerive.endRequest q e with notices := notices }, rfl, ?_, fun c => ?_⟩
  · have blends := funext (Blend.orphan_eq_without only)
    have waiting := funext (Blend.not_serves_eq_startsWithout only)
    rw [← blends, ← waiting]
    rfl
  · exact (State.channel_leaveQueue s.grantDerive _ c).trans (Channel.loseDerivation_eq_forgets only _)

/-! ### The SEARCH granted (R96, R97) -/

/-- A SEARCH granted is performed for its request (R96). -/
theorem exec_search_of_granted {s : State} {n : Nat} {q : Derivation} (settled : s.settled = true)
    (granted : s.deriveGrant = some (.search n)) (request : s.request n = some q) :
    exec .search s = .next (s.grantDerive.searchFor q) := by
  simp only [exec, execSearch, State.catchUp_of_settled settled, granted, request]

/-- A SEARCH that takes no slot ends its request NO_PARENTS (R97). -/
theorem State.searchFor_of_nil {s : State} {q : Derivation} (none_taken : s.nearest q.key = []) :
    s.searchFor q = ((s.endRequest q .noParents).raise .learnAbandoned q.channel.val).chooseDerive := by
  rw [State.searchFor, none_taken]
  rfl

/-- A SEARCH that takes slots writes them as parents and hands their grades to the blender (R96). -/
theorem State.searchFor_of_ne_nil {s : State} {before after : List Derivation} {q : Derivation}
    (queue : s.derive.queue = before ++ q :: after) (others : ∀ p ∈ before ++ after, p.number ≠ q.number)
    (taken : s.nearest q.key ≠ []) :
    s.searchFor q =
      State.chooseDerive
        { s with
          derive :=
            { s.derive with
              queue :=
                before ++ { q with stage := .blending, parents := some (s.parentsOf q.key (s.nearest q.key)) } :: after
              waitingBlends :=
                s.derive.waitingBlends ++
                  [{ request := some q.number, inputs := s.blendInputs q.key (s.nearest q.key) }] } } := by
  have rewritten := updateRequest_split
    (fun r => { r with stage := .blending, parents := some (s.parentsOf q.key (s.nearest q.key)) }) rfl others
  rw [State.searchFor, if_neg (by simpa using taken), ← rewritten, ← queue]
  rfl

/-- Settles O27: parents found by `State.searchFor_of_ne_nil`, none found by `State.searchFor_of_nil`. -/
theorem searchRecordsParentsOrAbandons : Obligations.SearchRecordsParentsOrAbandons := by
  refine ⟨?found, ?abandoned⟩
  case found =>
    rintro s n q before after settled granted queue rfl others taken distance hdistance
    have live {i : Slot} (hi : i ∈ s.nearest q.key) :
        ∃ e x, (s.cell i).holdsLive e x ∧ (s.cell i).distanceFrom q.key = distance i := by
      obtain ⟨e, x, live, -⟩ := (Cell.isCandidate_iff _ _ _).mp (State.isCandidate_of_mem_nearest hi)
      exact ⟨e, x, live, (Cell.distanceFrom_of_entry live.1 _).trans (hdistance i e live.1).symm⟩
    refine ⟨s.parentsOf q.key (s.nearest q.key), s.blendInputs q.key (s.nearest q.key), ?_, ?_, ?_⟩
    · refine List.map_congr_left fun i hi => ?_
      obtain ⟨e, x, -, near⟩ := live hi
      rw [near]
    · refine List.forall₂_map_right_iff.mpr (List.forall₂_same.mpr fun i hi => ?_)
      obtain ⟨e, x, holds, near⟩ := live hi
      exact ⟨near, e, x, holds, by rw [Cell.grade?_of_holdsLive holds]; rfl⟩
    · rw [exec_search_of_granted settled granted (State.request_split queue rfl others),
        State.searchFor_of_ne_nil (s := s.grantDerive) queue others taken]
      rfl
  case abandoned =>
    intro s n q settled granted request none_near
    obtain ⟨queued, -⟩ := State.mem_of_request request
    have none_taken : s.nearest q.key = [] := by
      refine List.eq_nil_iff_forall_not_mem.mpr fun i hi => ?_
      obtain ⟨e, x, live, near⟩ := (Cell.isCandidate_iff _ _ _).mp (State.isCandidate_of_mem_nearest hi)
      exact none_near i e x live near
    refine ⟨_, exec_search_of_granted settled granted request, ?_⟩
    rw [State.searchFor_of_nil (s := s.grantDerive) none_taken]
    exact State.endsRequest_endRequest queued .noParents _

end Sys2Proof.Machine
end

section
/-!
PROOFS. The blender: its order (R98), and each value of a blend as a weighted mean (R99).
-/
namespace Sys2Proof.Machine

-- One theorem after another: many at once would each hold a stack of their own.
set_option Elab.async false

/-! ### Blends start and complete (R98) -/

section
variable {s : State} {b : Blend} {l : List Blend}

/-- A blend that serves no request completes into nothing (R98). -/
theorem State.completeBlend_of_none (blends : s.derive.blends = b :: l) (serves : b.request = none) :
    s.completeBlend = { s with derive := { s.derive with blends := l } } := by
  simp only [State.completeBlend, blends, serves]
  rfl

/-- A blend completes into its request, which is READY with the blend's grade, and the unit chooses (R95, R98). -/
theorem State.completeBlend_of_some {n : Nat} {before after : List Derivation} {q : Derivation}
    (blends : s.derive.blends = b :: l) (serves : b.request = some n)
    (queue : s.derive.queue = before ++ q :: after) (named : q.number = n)
    (others : ∀ p ∈ before ++ after, p.number ≠ n) :
    s.completeBlend =
      State.chooseDerive
        { s with
          derive :=
            { s.derive with
              blends := l
              queue := before ++ { q with stage := .ready, result := some (blendGrade b.inputs) } :: after } } := by
  rw [← updateRequest_split (fun r => { r with stage := .ready, result := some (blendGrade b.inputs) }) named others,
    ← queue]
  simp only [State.completeBlend, blends, serves]
  rfl

end

/-- Settles O28: the start by `DerivationUnit.startBlend_of_room`, the completion by what the blend serves. -/
theorem blendsStartAndComplete : Obligations.BlendsStartAndComplete := by
  refine ⟨fun s b l waiting room => ?_, fun s b l settled blends => ?_⟩
  · exact congrArg (fun d => (.next (s.setDerive d) : Result)) (DerivationUnit.startBlend_of_room waiting room)
  · have completes {t : State} (e : s.completeBlend = t) : exec .blendComplete s = .next t :=
      congrArg _ ((congrArg _ (State.catchUp_of_settled settled)).trans e)
    exact ⟨fun serves => completes (State.completeBlend_of_none blends serves),
      fun _ _ _ _ serves queue named others =>
        completes (State.completeBlend_of_some blends serves queue named others)⟩

/-! ### The weighted mean (R99) -/

/-- The weighted sum of values within a range lies within that range times the sum of the weights. -/
theorem weightedSum_within {v : Grade → Int} {lo hi : Int} {l : List BlendInput}
    (within : ∀ b ∈ l, lo ≤ v b.grade ∧ v b.grade ≤ hi) :
    lo * totalWeight l ≤ weightedSum v l ∧ weightedSum v l ≤ hi * totalWeight l := by
  induction l with
  | nil => simp [totalWeight, weightedSum]
  | cons b l ih =>
    obtain ⟨⟨low, high⟩, within⟩ := List.forall_mem_cons.mp within
    obtain ⟨sum_low, sum_high⟩ := ih within
    have first_low := Int.mul_le_mul_of_nonneg_left low (Int.natCast_nonneg (blendWeight b))
    have first_high := Int.mul_le_mul_of_nonneg_left high (Int.natCast_nonneg (blendWeight b))
    simp only [totalWeight, weightedSum, List.map_cons, List.sum_cons, Nat.cast_add, Int.mul_add] at *
    constructor <;> linarith

/-- A quotient rounded toward zero lies between two whole numbers when its dividend lies between their multiples. -/
theorem tdiv_within {lo hi a b : Int} (positive : 0 < b) (low : lo * b ≤ a) (high : a ≤ hi * b) :
    lo ≤ a.tdiv b ∧ a.tdiv b ≤ hi := by
  have nonzero : b ≠ 0 := positive.ne'
  constructor
  · calc lo = (lo * b).tdiv b := (Int.mul_tdiv_cancel lo nonzero).symm
      _ ≤ a.tdiv b := Int.tdiv_le_tdiv positive low
  · calc a.tdiv b ≤ (hi * b).tdiv b := Int.tdiv_le_tdiv positive high
      _ = hi := Int.mul_tdiv_cancel hi nonzero

/-- A parent within the greatest distance has a weight above 0 (R99). -/
theorem blendWeight_pos {b : BlendInput} (near : b.distance ≤ 8190) : 0 < blendWeight b :=
  Nat.div_pos (by omega) (by omega)

/-- The weights of parents within the greatest distance do not add up to 0 (R99). -/
theorem totalWeight_pos {l : List BlendInput} (some_parent : l ≠ []) (near : ∀ b ∈ l, b.distance ≤ 8190) :
    0 < totalWeight l := by
  obtain ⟨b, l, rfl⟩ := List.exists_cons_of_ne_nil some_parent
  have first := blendWeight_pos (near b List.mem_cons_self)
  rw [totalWeight, List.map_cons, List.sum_cons]
  omega

/-- A value of a blend, before its clamp, lies within every range that holds the parents' values (R99). -/
theorem blendValue_within {v : Grade → Int} {lo hi : Int} {l : List BlendInput} (positive : 0 < totalWeight l)
    (within : ∀ b ∈ l, lo ≤ v b.grade ∧ v b.grade ≤ hi) : lo ≤ blendValue v l ∧ blendValue v l ≤ hi :=
  tdiv_within (Int.natCast_pos.mpr positive) (weightedSum_within within).1 (weightedSum_within within).2

/-- A value within its range is not clamped. -/
theorem clampTo_of_within {lo hi x : Int} (h : lo ≤ x ∧ x ≤ hi) : clampTo lo hi x = x := by
  rw [clampTo, if_neg (not_lt.mpr h.1), if_neg (not_lt.mpr h.2)]

/-- Each of the twelve values of a blend is clamped to a range that holds that value of every grade in range (R99). -/
theorem blendGrade_clamped (l : List BlendInput) :
    ∀ v ∈ gradeValues, ∃ lo hi, v (blendGrade l) = clampTo lo hi (blendValue v l) ∧
      ∀ g : Grade, g.holds → lo ≤ v g ∧ v g ≤ hi := by
  simp only [gradeValues, List.forall_mem_cons, List.not_mem_nil, false_implies, implies_true, and_true]
  exact ⟨⟨_, _, rfl, fun _ ⟨h, _⟩ => h⟩, ⟨_, _, rfl, fun _ ⟨_, h, _⟩ => h⟩, ⟨_, _, rfl, fun _ ⟨_, _, h, _⟩ => h⟩,
    ⟨_, _, rfl, fun _ ⟨_, _, _, h, _⟩ => h⟩, ⟨_, _, rfl, fun _ ⟨_, _, _, _, h, _⟩ => h⟩,
    ⟨_, _, rfl, fun _ ⟨_, _, _, _, _, h, _⟩ => h⟩, ⟨_, _, rfl, fun _ ⟨_, _, _, _, _, _, h, _⟩ => h⟩,
    ⟨_, _, rfl, fun _ ⟨_, _, _, _, _, _, _, h, _⟩ => h⟩, ⟨_, _, rfl, fun _ ⟨_, _, _, _, _, _, _, _, h, _⟩ => h⟩,
    ⟨_, _, rfl, fun _ ⟨_, _, _, _, _, _, _, _, _, h, _⟩ => h⟩,
    ⟨_, _, rfl, fun _ ⟨_, _, _, _, _, _, _, _, _, _, h, _⟩ => h⟩,
    ⟨_, _, rfl, fun _ ⟨_, _, _, _, _, _, _, _, _, _, _, h⟩ => h⟩⟩

/-- The clamp of a blend changes nothing when the parents' grades are in range (R99). -/
theorem blendGrade_value {l : List BlendInput} (positive : 0 < totalWeight l) (grades : ∀ b ∈ l, b.grade.holds)
    {v : Grade → Int} (hv : v ∈ gradeValues) : v (blendGrade l) = blendValue v l := by
  obtain ⟨lo, hi, clamped, range⟩ := blendGrade_clamped l v hv
  exact clamped.trans (clampTo_of_within (blendValue_within positive fun b hb => range b.grade (grades b hb)))

/-- A value of a blend before its clamp, with the weights as whole numbers (R99). -/
theorem blendValue_eq (v : Grade → Int) (l : List BlendInput) {weight : BlendInput → Int}
    (hw : ∀ b, weight b = 65536 / ((b.distance : Int) + 16)) :
    blendValue v l = (l.map fun b => weight b * v b.grade).sum.tdiv (l.map weight).sum := by
  have weight_eq : weight = fun b => (blendWeight b : Int) := funext fun b => by
    rw [hw b, blendWeight]
    rfl
  rw [weight_eq, blendValue, weightedSum, totalWeight, Nat.cast_list_sum, List.map_map]
  rfl

/-- Two grades with the same twelve values are the same. -/
theorem Grade.eq_of_values {a b : Grade} (h : ∀ v ∈ gradeValues, v a = v b) : a = b := by
  cases a
  cases b
  simpa [gradeValues] using h

/-- The grade of a single parent comes out as it is (R99). -/
theorem blendGrade_single {g : Grade} {d : Nat} (grade : g.holds) (near : d ≤ 8190) :
    blendGrade [{ grade := g, distance := d }] = g := by
  refine Grade.eq_of_values fun v hv => ?_
  have positive : 0 < totalWeight [{ grade := g, distance := d }] := totalWeight_pos (by simp) (by simpa using near)
  obtain ⟨low, high⟩ := blendValue_within (v := v) (lo := v g) (hi := v g) positive (by simp)
  exact (blendGrade_value positive (by simpa using grade) hv).trans (le_antisymm high low)

/-- Settles O29: the range by the clamp, the mean by `blendGrade_value` and its bounds by `blendValue_within`. -/
theorem blendIsAWeightedMean : Obligations.BlendIsAWeightedMean := by
  refine ⟨blendGrade_holds, fun g d => blendGrade_single, fun l weight some_parent parents hw v hv => ?_⟩
  have positive := totalWeight_pos some_parent fun b hb => (parents b hb).2
  have value := blendGrade_value positive (fun b hb => (parents b hb).1) hv
  exact ⟨value.trans (blendValue_eq v l hw), fun lo hi within => value ▸ blendValue_within positive within⟩

end Sys2Proof.Machine
end

section
/-!
PROOFS. The INSTALL: stale parents (R100), a key that is covered (R101), the slot it evicts (R103, R104), and room for
the entry (R102, R105).
-/
namespace Sys2Proof.Machine

-- One theorem after another: many at once would each hold a stack of their own.
set_option Elab.async false

/-! ### The slot an INSTALL evicts (R103, R104) -/

/-- What a slot's own record must be for its entry to be evicted (R103). -/
theorem Cell.evictable_iff (c : Cell) :
    c.evictable = true ↔
      ∃ e x parents n, c.holdsLive e x ∧ e.origin = .learned parents n ∧ e.pin = false ∧ x.vigour ≠ .active := by
  unfold Cell.evictable
  constructor
  · intro h
    split at h
    · next e x live =>
      split at h
      · next parents n origin => exact ⟨e, x, parents, n, Cell.live_eq_some live, origin, by simpa using h⟩
      · cases h
    · cases h
  · rintro ⟨e, x, parents, n, live, origin, pin, vigour⟩
    simp [Cell.live_of_holdsLive live, origin, pin, vigour]

/-- A slot is a winner when it is some channel's. -/
theorem State.isWinner_iff (s : State) (i : Slot) : s.isWinner i = true ↔ ∃ c, (s.channel c).winner = some i := by
  simp [State.isWinner, chans]

/-- A slot is protected when a queued request's parents list names it (R103). -/
theorem State.isQueuedParent_iff (s : State) (i : Slot) :
    s.isQueuedParent i = true ↔ ∃ q ∈ s.derive.queue, ∃ p ∈ q.parents.getD [], p.slot = i := by
  simp [State.isQueuedParent, Derivation.parentList]

/-- An eviction candidate: its own record, and no channel or queued request that holds it (R103). -/
theorem State.isEvictionCandidate_iff (s : State) (i : Slot) :
    s.isEvictionCandidate i = true ↔
      (∃ e x parents n, (s.cell i).holdsLive e x ∧ e.origin = .learned parents n ∧ e.pin = false ∧
          x.vigour ≠ .active) ∧
        (∀ c, (s.channel c).winner ≠ some i) ∧ ∀ q ∈ s.derive.queue, ∀ p ∈ q.parents.getD [], p.slot ≠ i := by
  unfold State.isEvictionCandidate
  rw [Bool.and_eq_true, Bool.and_eq_true, Cell.evictable_iff, Bool.not_eq_true', Bool.not_eq_true', and_assoc,
    ← Bool.not_eq_true, ← Bool.not_eq_true, State.isWinner_iff, State.isQueuedParent_iff]
  simp only [not_exists, not_and, ne_eq]

/-- A DORMANT slot is LIVE with a DORMANT body. -/
theorem Cell.isDormant_iff (c : Cell) : c.isDormant = true ↔ ∃ e x, c.holdsLive e x ∧ x.vigour = .dormant := by
  unfold Cell.isDormant
  constructor
  · intro h
    split at h
    · next e x live => exact ⟨e, x, Cell.live_eq_some live, by simpa using h⟩
    · cases h
  · rintro ⟨e, x, live, vigour⟩
    simp [Cell.live_of_holdsLive live, vigour]

/-- What is found from the top of the table down is the highest slot that could be found. -/
theorem find?_reverse_slots_eq_some_iff (p : Slot → Bool) (i : Slot) :
    slots.reverse.find? p = some i ↔ p i = true ∧ ∀ j, p j = true → j ≤ i := by
  rw [find?_eq_some_iff_of_pairwise (r := fun a b => b < a) (fun _ _ => lt_asymm) p
    (List.pairwise_reverse.mpr slots_sorted) i]
  simp only [List.mem_reverse, mem_slots, true_and, true_implies, le_iff_eq_or_lt, eq_comm (a := i)]

/-- The eviction choice is the highest DORMANT candidate, else the highest candidate (R104). -/
theorem State.evictionChoice_eq (s : State) :
    s.evictionChoice =
      (slots.reverse.find? fun i => s.isEvictionCandidate i && (s.cell i).isDormant).or
        (slots.reverse.find? s.isEvictionCandidate) := by
  have dormant_first :
      slots.reverse.find? (fun i => s.isEvictionCandidate i && (s.cell i).isDormant) =
        (slots.reverse.filter s.isEvictionCandidate).find? fun i => (s.cell i).isDormant := by
    simp only [List.find?_filter, Bool.decide_and, Bool.decide_eq_true]
  rw [dormant_first, ← List.head?_filter (p := s.isEvictionCandidate)]
  simp only [State.evictionChoice]
  cases (slots.reverse.filter s.isEvictionCandidate).find? fun i => (s.cell i).isDormant <;> rfl

/-- There is a choice exactly when there is a candidate (R102, R104). -/
theorem State.evictionChoice_eq_none_iff (s : State) :
    s.evictionChoice = none ↔ ∀ i, ¬s.isEvictionCandidate i = true := by
  rw [State.evictionChoice_eq, Option.or_eq_none_iff, List.find?_eq_none, List.find?_eq_none]
  simp only [List.mem_reverse, mem_slots, true_implies, Bool.and_eq_true, not_and]
  exact ⟨fun h => h.2, fun h => ⟨fun i candidate => absurd candidate (h i), h⟩⟩

/-- The choice is a DORMANT candidate before one that is not, and the highest slot among those (R104). -/
theorem State.evictionChoice_eq_some_iff (s : State) (i : Slot) :
    s.evictionChoice = some i ↔
      s.isEvictionCandidate i = true ∧
        ∀ j, s.isEvictionCandidate j = true → j ≠ i →
          ((s.cell i).isDormant = true ∧ ¬(s.cell j).isDormant = true) ∨
            (((s.cell i).isDormant = true ↔ (s.cell j).isDormant = true) ∧ j < i) := by
  rw [State.evictionChoice_eq, Option.or_eq_some_iff, find?_reverse_slots_eq_some_iff,
    find?_reverse_slots_eq_some_iff, List.find?_eq_none]
  simp only [List.mem_reverse, mem_slots, true_implies, Bool.and_eq_true, not_and, and_imp]
  constructor
  · rintro (⟨⟨candidate, dormant⟩, highest⟩ | ⟨none_dormant, candidate, highest⟩)
    · refine ⟨candidate, fun j hj other => ?_⟩
      by_cases asleep : (s.cell j).isDormant = true
      · exact .inr ⟨iff_of_true dormant asleep, lt_of_le_of_ne (highest j hj asleep) other⟩
      · exact .inl ⟨dormant, asleep⟩
    · exact ⟨candidate, fun j hj other =>
        .inr ⟨iff_of_false (none_dormant i candidate) (none_dormant j hj), lt_of_le_of_ne (highest j hj) other⟩⟩
  · rintro ⟨candidate, best⟩
    by_cases dormant : (s.cell i).isDormant = true
    · refine .inl ⟨⟨candidate, dormant⟩, fun j hj asleep => ?_⟩
      by_contra higher
      rcases best j hj (fun same => higher same.le) with ⟨-, awake⟩ | ⟨-, lower⟩
      · exact awake asleep
      · exact higher lower.le
    · refine .inr ⟨fun j hj asleep => ?_, candidate, fun j hj => ?_⟩
      · rcases best j hj (fun same => dormant (same ▸ asleep)) with ⟨dormant', -⟩ | ⟨alike, -⟩
        · exact dormant dormant'
        · exact dormant (alike.mpr asleep)
      · by_contra higher
        rcases best j hj (fun same => higher same.le) with ⟨dormant', -⟩ | ⟨-, lower⟩
        · exact dormant dormant'
        · exact higher lower.le

/-- Settles O33: the candidates by `State.isEvictionCandidate_iff`, the choice by `State.evictionChoice_eq_some_iff`. -/
theorem evictionChoosesHighestDormantFirst : Obligations.EvictionChoosesHighestDormantFirst := by
  intro s candidate dormant hcandidate hdormant
  have candidate_iff (i : Slot) : candidate i ↔ s.isEvictionCandidate i = true :=
    (hcandidate i).trans (s.isEvictionCandidate_iff i).symm
  have dormant_iff (i : Slot) : dormant i ↔ (s.cell i).isDormant = true :=
    (hdormant i).trans (Cell.isDormant_iff _).symm
  simp only [candidate_iff, dormant_iff]
  exact ⟨s.evictionChoice_eq_none_iff, s.evictionChoice_eq_some_iff⟩

/-! ### The tests of an INSTALL (R100, R101) -/

/-- A parent is stale when its slot is not LIVE or has another generation (R100). -/
theorem State.isStale_iff (s : State) (p : Parent) :
    s.isStale p = true ↔ (s.cell p.slot).state ≠ .live ∨ (s.cell p.slot).generation ≠ p.generation := by
  simp [State.isStale, Cell.isLive]

/-- No parent of a request is stale (R100). -/
theorem State.anyStale_eq_false {s : State} {q : Derivation}
    (fresh : ∀ p ∈ q.parents.getD [], (s.cell p.slot).state = .live ∧ (s.cell p.slot).generation = p.generation) :
    s.anyStale q = false := by
  refine List.any_eq_false.mpr fun p hp stale => ?_
  obtain ⟨live, same⟩ := fresh p hp
  rcases (s.isStale_iff p).mp stale with not_live | other
  · exact not_live live
  · exact other same

/-- A key is covered when a LIVE entry matches it under the FRAME profile (R101). -/
theorem State.isCovered_iff (s : State) (k : Key) :
    s.isCovered k = true ↔ ∃ i e x, (s.cell i).holdsLive e x ∧ s.frameProfile.admits k e.key = true := by
  simp [State.isCovered, Cell.fits_iff, Cell.holdsLive, and_assoc]

/-! ### The INSTALL granted (R100 to R105) -/

/-- An INSTALL granted is performed for its request with its result (R100). -/
theorem exec_install_of_granted {s : State} {n : Nat} {q : Derivation} {g : Grade} (settled : s.settled = true)
    (granted : s.deriveGrant = some (.install n)) (request : s.request n = some q) (result : q.result = some g) :
    exec .install s = .next (s.grantDerive.installFor q g) := by
  simp only [exec, execInstall, State.catchUp_of_settled settled, granted, request, result]

section
variable {s : State} {q : Derivation} {g : Grade}

/-- An INSTALL with a stale parent goes no further (R100). -/
theorem State.installFor_of_stale (stale : s.anyStale q = true) :
    s.installFor q g = (s.installStale q).chooseDerive :=
  congrArg State.chooseDerive (if_pos stale)

/-- An INSTALL whose key is covered ends REDUNDANT (R101). -/
theorem State.installFor_of_covered (fresh : s.anyStale q = false) (covered : s.isCovered q.key = true) :
    s.installFor q g = (s.endRequest q .redundant).chooseDerive := by
  rw [State.installFor, fresh, covered]
  rfl

/-- An INSTALL whose key is not covered looks for room (R102). -/
theorem State.installFor_of_uncovered (fresh : s.anyStale q = false) (uncovered : s.isCovered q.key = false) :
    s.installFor q g = (s.installRoom q g).chooseDerive := by
  rw [State.installFor, fresh, uncovered]
  rfl

/-- The entry is created at last free, after the grant, and its request ends INSTALLED there (R105, R107). -/
theorem State.endsRequest_placeLearned (queued : q ∈ s.derive.queue) {i : Slot} (free : s.lastFree = some i) :
    (s.setCell i ((s.cell i).written (q.entry g))).endsRequest (s.grantDerive.placeLearned q g).chooseDerive q
      (.installed i) s.notices := by
  have free' : s.grantDerive.lastFree = some i := free
  simp only [State.placeLearned, free']
  exact State.endsRequest_endRequest (s := s.setCell i _) queued (.installed i) s.notices

/-- With more EMPTY slots than the reserve no slot is evicted (R102). -/
theorem State.installRoom_of_room (room : s.derive.reserve < s.countOf .empty) :
    s.installRoom q g = s.placeLearned q g :=
  if_pos room

/-- Without that room the choice is evicted first (R102, R104). -/
theorem State.installRoom_of_eviction {v : Slot} (full : s.countOf .empty ≤ s.derive.reserve)
    (permitted : s.derive.evictionPermitted = true) (choice : s.evictionChoice = some v) :
    s.installRoom q g = ((s.retire v).raise .learnEvict v.val).placeLearned q g := by
  simp only [State.installRoom, if_neg (Nat.not_lt.mpr full), permitted, choice, if_true]

/-- Without that room and without a slot to evict the request ends FULL (R102). -/
theorem State.installRoom_of_full (full : s.countOf .empty ≤ s.derive.reserve)
    (none_evicted : s.derive.evictionPermitted = false ∨ s.evictionChoice = none) :
    s.installRoom q g = (s.endRequest q .full).raise .learnAbandoned q.channel.val := by
  have none_chosen : (if s.derive.evictionPermitted then s.evictionChoice else none) = none := by
    rcases none_evicted with forbidden | no_candidate
    · rw [forbidden]
      rfl
    · rw [no_candidate, ite_self]
  simp only [State.installRoom, if_neg (Nat.not_lt.mpr full), none_chosen]

/-- The retirement of a slot that is no channel's winner writes that slot alone (R20, R79). -/
theorem State.retire_of_not_winner {v : Slot} (no_winner : ∀ c, (s.channel c).winner ≠ some v) :
    s.retire v = s.setCell v (s.cell v).retired := by
  have channels : (s.retire v).channels = s.channels := by
    refine Vector.ext fun n hn => ?_
    have stands : (s.retire v).channel ⟨n, hn⟩ = s.channel ⟨n, hn⟩ := by
      rw [State.channel_retire, Channel.loseWinner_eq_without, Channel.without, if_neg (no_winner _)]
    exact stands
  calc s.retire v = { s.setCell v (s.cell v).retired with channels := (s.retire v).channels } := rfl
    _ = s.setCell v (s.cell v).retired := by rw [channels]; rfl

end

/-- Settles O30: by `State.installStale`, for both values of rerun used. -/
theorem installWithStaleParent : Obligations.InstallWithStaleParent := by
  intro s q l g p settled granted queue result others parent stale
  have found : s.grantDerive.anyStale q = true := List.any_eq_true.mpr ⟨p, parent, (s.isStale_iff p).mpr stale⟩
  have request : s.request q.number = some q := State.request_split (before := []) queue rfl others
  have performed := (exec_install_of_granted settled granted request result).trans
    (congrArg _ (State.installFor_of_stale found))
  refine ⟨fun unused => performed.trans ?_, fun used => ⟨_, performed, ?_⟩⟩
  · have waiting := updateRequest_split (before := [])
      (fun r => { r with stage := .waiting, rerunUsed := true, result := none }) rfl others
    rw [List.nil_append, List.nil_append, ← queue] at waiting
    rw [State.installStale, if_neg (by simp [unused]), ← waiting]
    rfl
  · have queued : q ∈ s.derive.queue := queue ▸ List.mem_cons_self
    rw [State.installStale, if_pos used]
    exact State.endsRequest_endRequest queued .stale _

/-- Settles O31: by the tests of R100 and R101. -/
theorem installFindsKeyCovered : Obligations.InstallFindsKeyCovered := by
  intro s n q g i e x settled granted request result fresh live admits
  have covered : s.grantDerive.isCovered q.key = true := (s.isCovered_iff q.key).mpr ⟨i, e, x, live, admits⟩
  have not_stale : s.grantDerive.anyStale q = false := State.anyStale_eq_false (s := s) fresh
  refine ⟨_, exec_install_of_granted settled granted request result, ?_⟩
  rw [State.installFor_of_covered not_stale covered]
  exact State.endsRequest_endRequest (State.mem_of_request request).1 .redundant _

/-- Settles O32: room, eviction, or neither, as `State.installRoom` finds them. -/
theorem installFindsRoomOrEndsFull : Obligations.InstallFindsRoomOrEndsFull := by
  rintro s n q g entry settled granted request result fresh uncovered rfl
  obtain ⟨queued, -⟩ := State.mem_of_request request
  have not_stale : s.grantDerive.anyStale q = false := State.anyStale_eq_false (s := s) fresh
  have not_covered : s.grantDerive.isCovered q.key = false := by
    refine Bool.eq_false_iff.mpr fun covered => ?_
    obtain ⟨i, e, x, live, admits⟩ := (s.isCovered_iff q.key).mp covered
    exact Bool.false_ne_true ((uncovered i e x live).symm.trans admits)
  have performed := (exec_install_of_granted settled granted request result).trans
    (congrArg _ (State.installFor_of_uncovered not_stale not_covered))
  refine ⟨fun i room free => ⟨_, performed, ?room⟩, ?eviction, fun full none_evicted => ⟨_, performed, ?full⟩⟩
  case room =>
    rw [State.installRoom_of_room (s := s.grantDerive) room]
    exact State.endsRequest_placeLearned queued free
  case eviction =>
    intro v i u full permitted choice hu free
    obtain ⟨candidate, -⟩ := (s.evictionChoice_eq_some_iff v).mp choice
    obtain ⟨-, no_winner, -⟩ := (s.isEvictionCandidate_iff v).mp candidate
    have evicted : (s.grantDerive.retire v).raise .learnEvict v.val = u.grantDerive := by
      rw [State.retire_of_not_winner (s := s.grantDerive) no_winner, hu]
      rfl
    have still_queued : q ∈ u.derive.queue := by rwa [hu]
    refine ⟨_, performed, ?_⟩
    rw [State.installRoom_of_eviction (s := s.grantDerive) full permitted choice, evicted]
    exact State.endsRequest_placeLearned still_queued free
  case full =>
    rw [State.installRoom_of_full (s := s.grantDerive) full none_evicted]
    exact State.endsRequest_endRequest queued .full _

end Sys2Proof.Machine
end

section
/-!
PROOFS. The Aging Unit: the start of a sweep (R115, R116), and a SWEEP STEP slot by slot and for the rest of the part
(R117 to R121).
-/
namespace Sys2Proof.Machine

-- One theorem after another: many at once would each hold a stack of their own.
set_option Elab.async false

/-! ### The start of a sweep -/

/-- What it means that a sweep is due (R116). -/
theorem AgingUnit.sweepDue_iff {a : AgingUnit} :
    a.sweepDue = true ↔ a.sweep = none ∧ ∃ k : ClassNo, a.pendingTicks[k] ≠ 0 := by
  rw [← Bool.not_eq_false, AgingUnit.sweepDue_eq_false]
  simp

/-- What the snapshot keeps of one class (R116). -/
theorem AgingUnit.getElem_takeSnapshot (a : AgingUnit) (k : ClassNo) :
    a.takeSnapshot[k] =
      { ticks := a.pendingTicks[k]
        idleAt := (a.classes[k] : ClassDescriptor).idleAt
        dormantAt := (a.classes[k] : ClassDescriptor).dormantAt
        retireAt := (a.classes[k] : ClassDescriptor).retireAt } :=
  Vec.getElem_mapIdx _ a.classes k

/-- A sweep that is due takes its snapshot, returns the counts to 0 and submits the step of block 0 (R116). -/
theorem State.startSweep_of_due {s : State} (due : s.aging.sweepDue = true) :
    s.startSweep =
      { s with
        aging :=
          { s.aging with
            pendingTicks := Vector.replicate 4 0
            sweep := some { position := 0, snapshot := s.aging.takeSnapshot } }
        arbiter := { s.arbiter with aging := some 0 } } :=
  if_pos due

/-- Settles O34: by `State.startSweep_of_due`, with the snapshot of `AgingUnit.takeSnapshot`. -/
theorem sweepStartsWithASnapshot : Obligations.SweepStartsWithASnapshot := fun s none_running pending =>
  have due := AgingUnit.sweepDue_iff.mpr ⟨none_running, pending⟩
  ⟨s.aging.takeSnapshot, congrArg _ (State.startSweep_of_due due), s.aging.getElem_takeSnapshot⟩

/-! ### A SWEEP STEP on one slot -/

/-- The illuminant a visit leaves, from its idle ticks after the visit (R118, R119). -/
theorem Illuminant.aged_eq {k : ClassSnapshot} {x : Illuminant} {idle : Nat}
    (visited : idle = if x.touched then 0 else min (x.idleTicks + k.ticks) 255) :
    x.aged k = { x with touched := false, idleTicks := idle, vigour := k.vigour idle } := by
  subst visited
  cases touched : x.touched with
  | true => simp [Illuminant.aged, touched]
  | false => simp [Illuminant.aged, touched, satAdd]

/-- What it takes to be retired by a visit (R120). -/
theorem agedOut_iff (k : ClassSnapshot) (pin winner : Bool) (x : Illuminant) :
    agedOut k pin winner x = true ↔
      k.retireAt ≠ 0 ∧ k.retireAt ≤ x.idleTicks ∧ pin = false ∧ winner = false := by
  simp [agedOut, and_assoc]

/-- What exempts a visited entry from retirement (R120). -/
theorem agedOut_eq_false_iff (k : ClassSnapshot) (pin winner : Bool) (x : Illuminant) :
    agedOut k pin winner x = false ↔
      k.retireAt = 0 ∨ x.idleTicks < k.retireAt ∨ pin = true ∨ winner = true := by
  rw [← Bool.not_eq_true, agedOut_iff]
  simp only [not_and_or, not_le, not_not, Bool.not_eq_false]

/-- A slot that is not LIVE is passed over (R121). -/
theorem Cell.aged_of_not_live {c : Cell} (h : c.state ≠ .live) (snap : Vector ClassSnapshot 4) (winner : Bool) :
    c.aged snap winner = c := by
  unfold Cell.aged
  split
  · next e x live =>
    obtain ⟨entry, body⟩ := Cell.live_eq_some live
    exact absurd (by rw [Cell.state_of_entry entry, Entry.state, body]) h
  · rfl

section

variable {c : Cell} {e : Entry} {x : Illuminant} {snap : Vector ClassSnapshot 4} {winner : Bool}

/-- A LIVE entry of a class without snapshot ticks is passed over (R121). -/
theorem Cell.aged_of_no_ticks (live : c.holdsLive e x) (none_ticked : snap[x.cls].ticks = 0) :
    c.aged snap winner = c := by
  simp only [Cell.aged, Cell.live_of_holdsLive live, if_pos none_ticked]

/-- A visited entry that reaches its retire_at, neither pinned nor a winner, is retired (R20, R120). -/
theorem Cell.aged_of_agedOut (live : c.holdsLive e x) (ticked : snap[x.cls].ticks ≠ 0)
    (out : agedOut snap[x.cls] e.pin winner (x.aged snap[x.cls]) = true) : c.aged snap winner = c.retired := by
  simp only [Cell.aged, Cell.live_of_holdsLive live, if_neg ticked, if_pos out]

/-- Any other visited entry stays, aged (R118, R119). -/
theorem Cell.aged_of_not_agedOut (live : c.holdsLive e x) (ticked : snap[x.cls].ticks ≠ 0)
    (stays : agedOut snap[x.cls] e.pin winner (x.aged snap[x.cls]) = false) :
    c.aged snap winner = c.touchedUp { e with body := .illuminant .live (x.aged snap[x.cls]) } := by
  simp only [Cell.aged, Cell.live_of_holdsLive live, if_neg ticked, stays, Bool.false_eq_true, if_false]

end

/-! ### A SWEEP STEP on the part -/

/-- A SWEEP STEP that AGING is granted is performed on its block (R118). -/
theorem exec_sweepStep_of_granted {s : State} {b : Block} {w : Sweep} (settled : s.settled = true)
    (granted : s.agingGrant = some b) (running : s.aging.sweep = some w) :
    exec .sweepStep s = .next (s.grantAging.sweepBlock w b) := by
  simp only [exec, execSweepStep, State.catchUp_of_settled settled, granted, running]

/-- A SWEEP STEP writes the table, the sweep's position and AGING's place at the arbiter, and nothing else (R117). -/
theorem State.sweepBlock_grantAging_eq (s : State) (w : Sweep) (b : Block) :
    s.grantAging.sweepBlock w b =
      { s with
        table := (s.grantAging.sweepBlock w b).table
        aging :=
          { s.aging with
            sweep := if h : b.val + 1 < 8 then some { w with position := ⟨b.val + 1, h⟩ } else none }
        arbiter :=
          { s.arbiter with
            rotation := .aging
            aging := if h : b.val + 1 < 8 then some ⟨b.val + 1, h⟩ else none } } := by
  unfold State.sweepBlock State.afterStep
  by_cases more : b.val + 1 < 8
  · simp only [dif_pos more]; rfl
  · simp only [dif_neg more]; rfl

/-- What it means that a slot belongs to a block (R117). -/
theorem inBlock_iff (b : Block) (i : Slot) : inBlock b i = true ↔ i.val / 64 = b.val := beq_iff_eq

/-- A slot of the block after a granted SWEEP STEP (R118). -/
theorem State.cell_sweepBlock_of_inBlock {s : State} {b : Block} {i : Slot} (inside : i.val / 64 = b.val)
    (w : Sweep) : (s.grantAging.sweepBlock w b).cell i = (s.cell i).aged w.snapshot (s.isWinner i) :=
  (s.grantAging.cell_sweepBlock w b i).trans (if_pos ((inBlock_iff b i).mpr inside))

/-- A slot outside the block after a granted SWEEP STEP (R117). -/
theorem State.cell_sweepBlock_of_not_inBlock {s : State} {b : Block} {i : Slot} (outside : i.val / 64 ≠ b.val)
    (w : Sweep) : (s.grantAging.sweepBlock w b).cell i = s.cell i :=
  (s.grantAging.cell_sweepBlock w b i).trans (if_neg fun inside => outside ((inBlock_iff b i).mp inside))

/-- Settles O35: the rest of the part by `State.sweepBlock_grantAging_eq`, each slot by what a visit does to it. -/
theorem sweepStepAgesItsBlock : Obligations.SweepStepAgesItsBlock := by
  intro s b w settled granted running
  refine ⟨_, exec_sweepStep_of_granted settled granted running, s.sweepBlock_grantAging_eq w b, ?others, ?visited⟩
  case others =>
    intro i other
    by_cases inside : i.val / 64 = b.val
    · rw [State.cell_sweepBlock_of_inBlock inside]
      exact Cell.aged_of_not_live (other.resolve_left (not_not_intro inside)) _ _
    · exact State.cell_sweepBlock_of_not_inBlock inside w
  case visited =>
    rintro i e x _ idle inside live rfl visit
    have aged := Illuminant.aged_eq visit
    have winner_iff := s.isWinner_iff i
    rw [State.cell_sweepBlock_of_inBlock inside]
    refine ⟨Cell.aged_of_no_ticks live, fun ticked limit reached unpinned no_winner => ?retired,
      fun ticked exempt => ?stays⟩
    case retired =>
      have not_winner : s.isWinner i = false :=
        Bool.eq_false_iff.mpr (mt winner_iff.mp (not_exists.mpr no_winner))
      exact Cell.aged_of_agedOut live ticked (aged ▸ (agedOut_iff _ _ _ _).mpr ⟨limit, reached, unpinned, not_winner⟩)
    case stays =>
      rw [← winner_iff] at exempt
      rw [Cell.aged_of_not_agedOut live ticked (aged ▸ (agedOut_eq_false_iff _ _ _ _).mpr exempt), aged]
      rfl

end Sys2Proof.Machine
end

section
/-!
PROOFS. The Anchor Check: the corrected colour and its comparison (R129, R130), the outcomes of a check (R127 to R132),
and the doubt a drift charges (R133).
-/
namespace Sys2Proof.Machine

-- One theorem after another: many at once would each hold a stack of their own.
set_option Elab.async false

/-! ### The corrected colour (R129, R130) -/

/-- A clamp in the words of the statements (R129). -/
theorem clampTo_eq_max_min {lo hi : Int} (h : lo ≤ hi) (x : Int) : clampTo lo hi x = max lo (min hi x) := by
  unfold clampTo
  split
  · omega
  · split <;> omega

/-- A corrected component passes when its distance from its reference is at most the tolerance (R130). -/
theorem componentPasses_iff (x : Int) (reference tolerance : Nat) :
    componentPasses x reference tolerance = true ↔ |x - reference| ≤ tolerance := by
  rw [componentPasses, decide_eq_true_eq, Int.abs_eq_natAbs, Int.ofNat_le]

/-- A reading passes when its three corrected components do (R130). -/
theorem Supplied.passes_iff (a : Supplied) (m : Grade) (r : AnchorReading) :
    a.passes m r = true ↔
      componentPasses (m.apply r.r r.g r.b).1 a.reference.r a.limits.tolerance = true ∧
        componentPasses (m.apply r.r r.g r.b).2.1 a.reference.g a.limits.tolerance = true ∧
          componentPasses (m.apply r.r r.g r.b).2.2 a.reference.b a.limits.tolerance = true := by
  simp only [Supplied.passes, Bool.and_eq_true, and_assoc]

/-- Settles O20: each component by `componentPasses_iff`, with the clamp of `clampTo_eq_max_min`. -/
theorem anchorColourIsCorrectedAndCompared : Obligations.AnchorColourIsCorrectedAndCompared := by
  rintro a m r clamped _ _ _ clamped_eq rfl rfl rfl
  obtain rfl : clamped = clampTo 0 65535 :=
    funext fun x => (clamped_eq x).trans (clampTo_eq_max_min (by decide) x).symm
  rw [Supplied.passes_iff]
  simp only [componentPasses_iff]
  rfl

/-! ### The check of a reading (R127 to R132) -/

/-- An ANCHOR slot read as one. -/
theorem Cell.anchor_of_body {c : Cell} {e : Entry} {a : AnchorBody} (entry : c.entry = some e)
    (body : e.body = .anchor a) : c.anchor = some (e, a) := by
  simp only [Cell.anchor, entry, body]

/-- A slot that is not ANCHOR has no anchor's body. -/
theorem Cell.anchor_eq_none {c : Cell} (h : c.state ≠ .anchor) : c.anchor = none := by
  refine Option.eq_none_iff_forall_ne_some.mpr fun ⟨e, a⟩ found => h ?_
  obtain ⟨entry, body⟩ := Cell.anchor_eq_some found
  rw [Cell.state_of_entry entry, Entry.state, body]

/-- A channel is in the channel set when the start of the work gave it an input (R58). -/
theorem FrameWork.inSet_iff (w : FrameWork) (c : Chan) : w.inSet c = true ↔ w.inputs[c] ≠ .outside := bne_iff_ne

/-- An ANCHOR operation that FRAME is granted checks its reading, and the part goes on (R60, R126). -/
theorem exec_anchorCheck_of_granted {s : State} {r : AnchorReading} {n tag : Nat} {w : FrameWork}
    {waiting : Option ClosedFrame} (granted : s.grantsFrame (.anchor r n tag) w waiting) :
    exec .anchorCheck s =
      .next
        ((s.grantFrame.checkAnchor r tag (w.inSet r.channel)).continuePart w waiting r.channel w.toCheck) := by
  obtain ⟨settled, grant, closing⟩ := granted
  simp only [exec, execAnchorCheck, State.catchUp_of_settled settled, grant, closing]

section

variable {s : State} {r : AnchorReading} {tag : Nat} {e : Entry} {a : AnchorBody}

/-- A reading whose slot is not ANCHOR, or whose channel is outside the channel set, is bad (R127). -/
theorem State.checkAnchor_of_bad {inSet : Bool} (bad : (s.cell r.slot).state ≠ .anchor ∨ inSet = false) :
    s.checkAnchor r tag inSet = s.raise .anchorBad r.slot.val := by
  unfold State.checkAnchor
  rcases bad with not_anchor | rfl
  · rw [Cell.anchor_eq_none not_anchor]
  · split <;> rfl

/-- A reading of a frame with another tag than the anchor's (R128). -/
theorem State.checkAnchor_of_other_tag (found : (s.cell r.slot).anchor = some (e, a)) (other : e.key.tag ≠ tag) :
    s.checkAnchor r tag true = s.writeAnchor r.slot e a a.failStreak .none := by
  simp only [State.checkAnchor, found, if_pos other, if_true]

/-- A reading that passes (R130). -/
theorem State.checkAnchor_of_pass (found : (s.cell r.slot).anchor = some (e, a)) (same : e.key.tag = tag)
    (pass : a.supplied.passes (s.channel r.channel).delivered r = true) :
    s.checkAnchor r tag true = s.writeAnchor r.slot e a 0 .pass := by
  simp only [State.checkAnchor, found, if_neg (not_not_intro same), if_pos pass, if_true]

/-- A failure on a GLIDING channel is deferred (R131). -/
theorem State.checkAnchor_of_gliding (found : (s.cell r.slot).anchor = some (e, a)) (same : e.key.tag = tag)
    (fails : a.supplied.passes (s.channel r.channel).delivered r = false)
    (gliding : (s.channel r.channel).glide = .gliding) :
    s.checkAnchor r tag true = s.writeAnchor r.slot e a a.failStreak .deferred := by
  simp only [State.checkAnchor, found, if_neg (not_not_intro same), fails, Bool.false_eq_true, if_false,
    if_pos gliding, if_true]

/-- A failure on a STEADY channel counts (R132). -/
theorem State.checkAnchor_of_steady (found : (s.cell r.slot).anchor = some (e, a)) (same : e.key.tag = tag)
    (fails : a.supplied.passes (s.channel r.channel).delivered r = false)
    (steady : (s.channel r.channel).glide = .steady) :
    s.checkAnchor r tag true = s.failAnchor r.slot e a r.channel := by
  have not_gliding : (s.channel r.channel).glide ≠ .gliding := by rw [steady]; nofun
  simp only [State.checkAnchor, found, if_neg (not_not_intro same), fails, Bool.false_eq_true, if_false,
    if_neg not_gliding, if_true]

end

/-- An anchor's working fields written after a grant to FRAME: its slot and the arbiter change, and nothing else. -/
theorem State.writeAnchor_grantFrame (s : State) (i : Slot) (e : Entry) (a : AnchorBody) (streak : Nat)
    (o : AnchorOutcome) :
    s.grantFrame.writeAnchor i e a streak o =
      { s with
        arbiter := s.arbiter.servedFrame
        table :=
          s.table.set i
            { generation := (s.cell i).generation
              entry :=
                some
                  { e with
                    body := .anchor { supplied := a.supplied, failStreak := streak, lastOutcome := o } } } } := rfl

/-- Settles O18: a bad reading, then the three outcomes that do not fail, each by its branch of the check. -/
theorem anchorCheckEndsWithoutFailing : Obligations.AnchorCheckEndsWithoutFailing := by
  intro s r n tag w waiting granted
  have checked := exec_anchorCheck_of_granted granted
  refine ⟨fun bad => ?bad, fun e a entry body inside written written_eq => ?found⟩
  case bad =>
    have bad : (s.cell r.slot).state ≠ .anchor ∨ w.inSet r.channel = false :=
      bad.imp_right fun outside => Bool.eq_false_iff.mpr fun inside => (w.inSet_iff _).mp inside outside
    rw [checked, State.checkAnchor_of_bad (s := s.grantFrame) bad]
    rfl
  case found =>
    have found : (s.grantFrame.cell r.slot).anchor = some (e, a) := Cell.anchor_of_body entry body
    rw [checked, (w.inSet_iff _).mpr inside]
    simp only [written_eq, ← State.writeAnchor_grantFrame]
    exact ⟨fun other => by rw [State.checkAnchor_of_other_tag found other],
      fun same pass => by rw [State.checkAnchor_of_pass found same pass],
      fun same fails gliding => by rw [State.checkAnchor_of_gliding found same fails gliding]⟩

/-! ### A failure that counts, and doubt (R132, R133) -/

section

variable {s : State} {i : Slot} {e : Entry} {a : AnchorBody} {c : Chan}

/-- A failure that does not reach the streak limit adds one to the streak (R132). -/
theorem State.failAnchor_of_below (below : a.failStreak + 1 ≠ a.supplied.limits.streakLimit) :
    s.failAnchor i e a c = s.writeAnchor i e a (a.failStreak + 1) .fail :=
  if_neg below

/-- A drift on a channel without a winner (R132, R133). -/
theorem State.failAnchor_of_no_winner (limit : a.failStreak + 1 = a.supplied.limits.streakLimit)
    (no_winner : (s.channel c).winner = none) :
    s.failAnchor i e a c = (s.writeAnchor i e a 0 .fail).raise .drift i.val := by
  have still : (((s.writeAnchor i e a 0 .fail).raise .drift i.val).channel c).winner = none := no_winner
  simp only [State.failAnchor, if_pos limit, still]

/-- A drift charges doubt against the channel's winner (R133). -/
theorem State.failAnchor_of_winner {j : Slot} (limit : a.failStreak + 1 = a.supplied.limits.streakLimit)
    (winner : (s.channel c).winner = some j) :
    s.failAnchor i e a c = ((s.writeAnchor i e a 0 .fail).raise .drift i.val).chargeDoubt j := by
  have still : (((s.writeAnchor i e a 0 .fail).raise .drift i.val).channel c).winner = some j := winner
  simp only [State.failAnchor, if_pos limit, still]

/-- An anchor's working fields written leave a LIVE slot as it stands: it is not the anchor's. -/
theorem State.cell_writeAnchor_of_live {j : Slot} {f : Entry} {x : Illuminant} (entry : (s.cell i).entry = some e)
    (body : e.body = .anchor a) (live : (s.cell j).holdsLive f x) (streak : Nat) (o : AnchorOutcome) :
    (s.writeAnchor i e a streak o).cell j = s.cell j := by
  obtain ⟨entry', body'⟩ := live
  have other : j ≠ i := by
    rintro rfl
    cases entry.symm.trans entry'
    cases body.symm.trans body'
  rw [State.writeAnchor, State.cell_setCell, if_neg other]

/-- Doubt that stays below the FRAME profile's limit is counted, up to 7 (R133). -/
theorem State.chargeDoubt_of_below {x : Illuminant} (live : (s.cell i).holdsLive e x)
    (below : min (x.doubt + 1) 7 < s.frameProfile.doubtLimit) :
    s.chargeDoubt i =
      s.setCell i ((s.cell i).touchedUp (e.withLight .live { x with doubt := min (x.doubt + 1) 7 })) := by
  simp only [State.chargeDoubt, Cell.live_of_holdsLive live]
  exact if_neg (Nat.not_le.mpr below)

/-- Doubt that reaches the limit moves the entry to HELD, and the channels lose that winner (R79, R133). -/
theorem State.chargeDoubt_of_limit {x : Illuminant} (live : (s.cell i).holdsLive e x)
    (limit : s.frameProfile.doubtLimit ≤ min (x.doubt + 1) 7) :
    s.chargeDoubt i =
      ((s.setCell i
            ((s.cell i).written (e.withLight .held { x with doubt := min (x.doubt + 1) 7 }))).clearWinners
          fun j => j == i).raise .entryHeld i.val := by
  simp only [State.chargeDoubt, Cell.live_of_holdsLive live]
  exact if_pos limit

end

/-- Settles O19: below the streak limit, at it without a winner, and at it with one, whose doubt stays below the FRAME
profile's limit or reaches it. -/
theorem anchorFailureCountsAndDrifts : Obligations.AnchorFailureCountsAndDrifts := by
  intro s r n tag w waiting e a granted entry body inside same fails steady written written_eq
  have failed :
      exec .anchorCheck s =
        .next ((s.grantFrame.failAnchor r.slot e a r.channel).continuePart w waiting r.channel w.toCheck) := by
    rw [exec_anchorCheck_of_granted granted, (w.inSet_iff _).mpr inside,
      State.checkAnchor_of_steady (s := s.grantFrame) (Cell.anchor_of_body entry body) same fails steady]
  have wrote (streak : Nat) : s.grantFrame.writeAnchor r.slot e a streak .fail = written streak :=
    (written_eq streak).symm
  rw [failed]
  refine ⟨fun below => ?below, fun limit no_winner => ?noWinner, fun i f x limit winner live => ?winner⟩
  case below => rw [State.failAnchor_of_below below, wrote]
  case noWinner =>
    rw [State.failAnchor_of_no_winner (s := s.grantFrame) limit no_winner, wrote, written_eq]
    rfl
  case winner =>
    have stands : ((written 0).raise .drift r.slot.val).cell i = s.cell i := by
      rw [State.cell_raise, ← wrote]
      exact State.cell_writeAnchor_of_live (s := s.grantFrame) entry body live 0 .fail
    have still_live : (((written 0).raise .drift r.slot.val).cell i).holdsLive f x := stands ▸ live
    have profile : ((written 0).raise .drift r.slot.val).frameProfile = s.frameProfile := by
      rw [written_eq]
      rfl
    rw [State.failAnchor_of_winner (s := s.grantFrame) limit winner, wrote]
    refine ⟨fun below => ?counted, fun reached => ?held⟩
    case counted =>
      rw [State.chargeDoubt_of_below still_live (profile ▸ below), stands, written_eq]
      rfl
    case held =>
      rw [State.chargeDoubt_of_limit still_live (profile ▸ reached), stands, written_eq]
      refine ⟨_, rfl, rfl, fun c => ?_⟩
      rw [State.channel_raise, State.channel_clearWinners, Channel.loseWinner_eq_without]
      rfl

end Sys2Proof.Machine
end

section
/-!
PROOFS. The Scope Stack: OPEN SCOPE (R139), and what the DROP and KEEP walks leave of the table, the channels, the
Derivation Unit and the depth (R106, R108, R140, R144 to R147).
-/
namespace Sys2Proof.Machine

-- One theorem after another: many at once would each hold a stack of their own.
set_option Elab.async false

/-! ### OPEN SCOPE (R139) -/

/-- Below depth 3 a scope opens. -/
theorem State.openScope_of_lt {s : State} (room : s.depth < 3) :
    s.openScope = (s.setDepth (s.depth + 1)).done (.depth (s.depth + 1)) := if_pos room

/-- At depth 3 no scope opens. -/
theorem State.openScope_of_le {s : State} (full : 3 ≤ s.depth) : s.openScope = s.refuse .scopeFull :=
  if_neg (Nat.not_lt.mpr full)

/-- Settles O48: by the depth at the taking. -/
theorem openScopeRaisesTheDepth : Obligations.OpenScopeRaisesTheDepth := by
  intro s listens
  have taken : exec .openScope s = .next s.taking.openScope :=
    congrArg _ (State.takeMessage_of_listens listens State.openScope)
  rw [taken]
  exact ⟨fun room => congrArg _ (State.openScope_of_lt (s := s.taking) room),
    fun full => congrArg _ (State.openScope_of_le (s := s.taking) full)⟩

/-! ### The slots that a walk counts -/

/-- The slots whose records pass a test, in priority order. -/
def State.slotsWhere (s : State) (p : Cell → Bool) : List Slot := slots.filter fun i => p (s.cell i)

theorem State.mem_slotsWhere {s : State} {p : Cell → Bool} {i : Slot} : i ∈ s.slotsWhere p ↔ p (s.cell i) = true := by
  simp [State.slotsWhere]

theorem State.nodup_slotsWhere (s : State) (p : Cell → Bool) : (s.slotsWhere p).Nodup :=
  (slots_sorted.imp ne_of_lt).filter _

/-- A count over the table's records is a count of slots. -/
theorem State.countP_table (s : State) (p : Cell → Bool) : s.table.toList.countP p = (s.slotsWhere p).length := by
  rw [State.table_toList, List.countP_map, List.countP_eq_length_filter]
  rfl

/-- The requests issued at a depth are counted as they stand in the queue. -/
theorem State.requestsAt_eq (s : State) (d : Nat) :
    s.requestsAt d = (s.derive.queue.filter fun q => q.issueDepth == d).length :=
  List.countP_eq_length_filter

/-! ### A KEEP on one slot (R147) -/

section
variable {c : Cell} {e : Entry} {sh : Shadow} {d : Nat}

/-- An EMPTY slot is passed over by a KEEP. -/
theorem Cell.kept_of_empty (empty : c.entry = none) : c.kept d = c := by
  simp only [Cell.kept, empty]

/-- A KEEP writes the entry of a slot and no generation. -/
theorem Cell.kept_of_entry (entry : c.entry = some e) :
    c.kept d = { generation := c.generation, entry := some (e.kept d) } := by
  simp only [Cell.kept, entry, Cell.touchedUp]

/-- A KEEP writes the stamp and the shadow of an entry, and nothing else. -/
theorem Entry.kept_eq (d : Nat) (e : Entry) :
    e.kept d = { e with stamp := e.keptStamp d, shadow := (e.kept d).shadow } := rfl

theorem Entry.shadow_kept_of_none (bare : e.shadow = none) : (e.kept d).shadow = none := by
  simp only [Entry.kept, bare]

/-- A shadow of another depth stands. -/
theorem Entry.shadow_kept_of_other (shadow : e.shadow = some sh) (other : sh.depth ≠ d) :
    (e.kept d).shadow = some sh := by
  simp only [Entry.kept, shadow, if_neg other]

/-- A shadow of the depth is lowered, and gone when it no longer stands above the stamp. -/
theorem Entry.shadow_kept_of_depth (shadow : e.shadow = some sh) (deep : sh.depth = d) :
    (e.kept d).shadow = if d - 1 ≤ e.keptStamp d then none else some { sh with depth := d - 1 } := by
  simp only [Entry.kept, shadow, if_pos deep]

/-- The slots whose stamps a KEEP lowers. -/
theorem Cell.keepRestamps_iff (d : Nat) (c : Cell) :
    c.keepRestamps d = true ↔ ∃ e, c.entry = some e ∧ e.stamp = d := by
  unfold Cell.keepRestamps
  cases c.entry <;> simp

/-- The slots whose shadows a KEEP lowers. -/
theorem Cell.keepLowers_iff (d : Nat) (c : Cell) :
    c.keepLowers d = true ↔ ∃ e sh, c.entry = some e ∧ e.shadow = some sh ∧ sh.depth = d := by
  unfold Cell.keepLowers
  cases c.entry with
  | none => simp
  | some e => cases hs : e.shadow <;> simp [hs]

/-- The slots whose shadows a KEEP folds away: those lowered that have none after it. -/
theorem Cell.keepFolds_iff (d : Nat) (c : Cell) :
    c.keepFolds d = true ↔ c.keepLowers d = true ∧ ∃ e, (c.kept d).entry = some e ∧ e.shadow = none := by
  cases entry : c.entry with
  | none => simp [Cell.keepFolds, Cell.kept_of_empty entry, entry]
  | some e =>
    have folds : c.keepFolds d = (c.keepLowers d && decide (d - 1 ≤ e.keptStamp d)) := by
      simp only [Cell.keepFolds, entry]
    rw [folds, Cell.kept_of_entry entry, Bool.and_eq_true, decide_eq_true_iff]
    refine and_congr_right fun lowers => ?_
    obtain ⟨e', sh, entry', shadow, deep⟩ := (Cell.keepLowers_iff d c).mp lowers
    obtain rfl : e = e' := Option.some.inj (entry.symm.trans entry')
    simp [Entry.shadow_kept_of_depth shadow deep]

end

/-! ### The KEEP walk -/

/-- A KEEP that SERVICE is granted is performed, with the counts of the part before it (R140, R147). -/
theorem exec_keepWalk_of_granted {s : State} {d : Nat} (granted : s.grantsService (.keep d)) :
    exec .keepWalk s = .next ((s.grantService.keepScope d).done (s.keepResults d)) := by
  obtain ⟨settled, grant⟩ := granted
  simp only [exec, execKeepWalk, State.catchUp_of_settled settled, grant]

/-- The counts of a KEEP, as lengths of lists of slots and of requests (R140). -/
theorem State.keepResults_eq (s : State) (d : Nat) :
    s.keepResults d =
      .kept (d - 1) (s.slotsWhere (Cell.keepRestamps d)).length (s.slotsWhere (Cell.keepLowers d)).length
        (s.slotsWhere (Cell.keepFolds d)).length (s.derive.queue.filter fun q => q.issueDepth == d).length := by
  simp only [State.keepResults, State.countP_table, State.requestsAt_eq]

/-- Settles O50: each slot by `Entry.kept_eq`, the counts by `State.keepResults_eq`. -/
theorem keepFoldsTheScope : Obligations.KeepFoldsTheScope := by
  intro s d granted
  have kept (i : Slot) : ((s.grantService.keepScope d).done (s.keepResults d)).cell i = (s.cell i).kept d :=
    State.cell_keepScope s.grantService d i
  refine ⟨_, s.slotsWhere (Cell.keepRestamps d), s.slotsWhere (Cell.keepLowers d), s.slotsWhere (Cell.keepFolds d),
    exec_keepWalk_of_granted granted, ?rest, fun i empty => (kept i).trans (Cell.kept_of_empty empty), ?slot,
    s.nodup_slotsWhere _, s.nodup_slotsWhere _, s.nodup_slotsWhere _,
    fun i => State.mem_slotsWhere.trans (Cell.keepRestamps_iff d _),
    fun i => State.mem_slotsWhere.trans (Cell.keepLowers_iff d _), fun i => ?folded⟩
  case rest =>
    rw [← State.keepResults_eq]
    rfl
  case slot =>
    rintro i e _ entry rfl
    rw [kept, Cell.kept_of_entry entry, Entry.kept_eq]
    cases shadow : e.shadow with
    | none =>
      rw [Entry.shadow_kept_of_none shadow]
      rfl
    | some sh =>
      by_cases deep : sh.depth = d
      · rw [Entry.shadow_kept_of_depth shadow deep]
        simp only [deep, ne_eq, not_true_eq_false, if_false]
        rfl
      · rw [Entry.shadow_kept_of_other shadow deep]
        simp only [ne_eq, deep, not_false_eq_true, if_true]
        rfl
  case folded => rw [kept, State.mem_slotsWhere, State.mem_slotsWhere, Cell.keepFolds_iff]

/-! ### A DROP on one slot (R144, R145) -/

/-- The slots that a DROP retires (R144): a KEEP tests a stamp in the same way. -/
theorem Cell.dropRetires_iff (d : Nat) (c : Cell) :
    c.dropRetires d = true ↔ ∃ e, c.entry = some e ∧ e.stamp = d :=
  Cell.keepRestamps_iff d c

/-- The shadow that a DROP restores a slot from (R145). -/
theorem Cell.dropShadow_eq_some_iff (d : Nat) (c : Cell) (e : Entry) (sh : Shadow) :
    c.dropShadow d = some (e, sh) ↔
      c.entry = some e ∧ e.stamp ≠ d ∧ e.shadow = some sh ∧ sh.depth = d := by
  constructor
  · intro found
    unfold Cell.dropShadow at found
    split at found
    · next e' entry =>
      split at found
      · next sh' shadow =>
        split at found
        · next taken =>
          cases found
          exact ⟨entry, taken.2, shadow, taken.1⟩
        · cases found
      · cases found
    · cases found
  · rintro ⟨entry, other, shadow, deep⟩
    simp only [Cell.dropShadow, entry, shadow]
    exact if_pos ⟨deep, other⟩

/-- The slots that a DROP restores (R145). -/
theorem Cell.isSome_dropShadow_iff (d : Nat) (c : Cell) :
    (c.dropShadow d).isSome = true ↔
      ∃ e sh, c.entry = some e ∧ e.stamp ≠ d ∧ e.shadow = some sh ∧ sh.depth = d := by
  simp only [Option.isSome_iff_exists, Prod.exists, Cell.dropShadow_eq_some_iff]

section
variable {c : Cell} {e : Entry} {sh : Shadow} {d : Nat}

/-- An EMPTY slot is passed over by a DROP. -/
theorem Cell.dropped_of_empty (empty : c.entry = none) : c.dropped d = c := by
  simp [Cell.dropped, Cell.dropRetires, Cell.dropShadow, empty]

/-- An entry stamped at the depth is retired (R20, R144). -/
theorem Cell.dropped_of_stamped (entry : c.entry = some e) (stamped : e.stamp = d) : c.dropped d = c.retired :=
  if_pos ((Cell.dropRetires_iff d c).mpr ⟨e, entry, stamped⟩)

/-- An entry not stamped at the depth is not retired. -/
theorem Cell.dropRetires_of_not_stamped (entry : c.entry = some e) (other : e.stamp ≠ d) :
    ¬c.dropRetires d = true := by
  simp [Cell.dropRetires, entry, other]

/-- An entry with a shadow of the depth is restored from it (R145). -/
theorem Cell.dropped_of_shadowed (entry : c.entry = some e) (other : e.stamp ≠ d) (shadow : e.shadow = some sh)
    (deep : sh.depth = d) : c.dropped d = c.written (e.restored sh) := by
  have restores : c.dropShadow d = some (e, sh) :=
    (Cell.dropShadow_eq_some_iff d c e sh).mpr ⟨entry, other, shadow, deep⟩
  rw [Cell.dropped, if_neg (Cell.dropRetires_of_not_stamped entry other), restores]

/-- Any other entry stands. -/
theorem Cell.dropped_of_other (entry : c.entry = some e) (other : e.stamp ≠ d)
    (shallow : ∀ sh, e.shadow = some sh → sh.depth ≠ d) : c.dropped d = c := by
  have stands : c.dropShadow d = none := by
    refine Option.eq_none_iff_forall_ne_some.mpr fun ⟨e', sh⟩ found => ?_
    obtain ⟨entry', -, shadow, deep⟩ := (Cell.dropShadow_eq_some_iff d c e' sh).mp found
    obtain rfl : e = e' := Option.some.inj (entry.symm.trans entry')
    exact shallow sh shadow deep
  rw [Cell.dropped, if_neg (Cell.dropRetires_of_not_stamped entry other), stands]

/-- A LIVE slot is taken out of LIVE by a DROP just when it is not LIVE after it (R146). -/
theorem Cell.dropUnseats_iff_of_live (live : c.state = .live) :
    c.dropUnseats d = true ↔ (c.dropped d).state ≠ .live := by
  refine ⟨fun unseated => ?_, fun out => ?_⟩
  · rcases Bool.or_eq_true_iff.mp unseated with retires | restored
    · rw [Cell.dropped, if_pos retires]
      nofun
    · simpa [Cell.isLive] using (Bool.and_eq_true_iff.mp restored).2
  · by_contra stays
    exact out (Cell.state_dropped live (Bool.eq_false_iff.mpr stays))

end

/-! ### What a channel loses (R79, R106) -/

/-- A clearing of winners writes a channel's winner alone. -/
theorem Channel.loseWinner_eq (gone : Slot → Bool) (ch : Channel) :
    ch.loseWinner gone = { ch with winner := (ch.loseWinner gone).winner } := by
  unfold Channel.loseWinner
  split
  · split <;> rfl
  · rfl

theorem Channel.winner_loseWinner_of_some {gone : Slot → Bool} {ch : Channel} {i : Slot} (winner : ch.winner = some i) :
    (ch.loseWinner gone).winner = if gone i then none else some i := by
  simp only [Channel.loseWinner, winner]
  split
  · rfl
  · exact winner

theorem Channel.winner_loseWinner_of_none {gone : Slot → Bool} {ch : Channel} (absent : ch.winner = none) :
    (ch.loseWinner gone).winner = none := by
  simp only [Channel.loseWinner, absent]

/-- Requests that go take a channel's pending derivation alone. -/
theorem Channel.loseDerivation_eq (gone : List Nat) (ch : Channel) :
    ch.loseDerivation gone = { ch with pendingDerivation := (ch.loseDerivation gone).pendingDerivation } := by
  unfold Channel.loseDerivation
  split
  · split <;> rfl
  · rfl

/-- What goes leaves nothing, and what does not go stands. -/
theorem ite_none_some_eq_some_iff {α : Type} {goes : α → Prop} [DecidablePred goes] {a b : α} :
    (if goes a then none else some a) = some b ↔ some a = some b ∧ ¬goes b := by
  rw [Option.ite_none_left_eq_some, and_comm]
  exact and_congr_right fun same => by rw [Option.some.inj same]

/-- The pending derivations that stand are those that name none of the requests that go. -/
theorem Channel.pendingDerivation_loseDerivation_eq_some_iff (gone : List Nat) (ch : Channel) (n : Nat) :
    (ch.loseDerivation gone).pendingDerivation = some n ↔ ch.pendingDerivation = some n ∧ n ∉ gone := by
  unfold Channel.loseDerivation
  cases pending : ch.pendingDerivation with
  | none => simp [pending]
  | some m =>
    simp only [List.contains_iff_mem, apply_ite Channel.pendingDerivation, pending]
    exact ite_none_some_eq_some_iff (goes := (· ∈ gone))

/-! ### Requests that leave the queue together (R98, R106) -/

/-- A blend in progress loses the requests that go, in the words of the statements. -/
theorem Blend.orphan_eq_without_gone (gone : List Nat) : Blend.orphan gone = Blend.without gone := by
  funext b
  unfold Blend.orphan Blend.without
  cases b.request <;> simp

/-- The blends that still wait, in the words of the statements. -/
theorem Blend.not_serves_eq_startsWithout_gone (gone : List Nat) :
    (fun b : Blend => !b.serves gone) = Blend.startsWithout gone := by
  funext b
  unfold Blend.serves Blend.startsWithout
  cases b.request <;> simp

/-- An operation of DERIVE is for none of the requests that go, in the words of the statements. -/
theorem DeriveOp.request_not_mem_iff (gone : List Nat) (op : DeriveOp) :
    op.request ∉ gone ↔ ∀ n ∈ gone, op ≠ .search n ∧ op ≠ .install n := by
  cases op <;> simp [DeriveOp.request, List.forall_mem_ne]

/-- DERIVE's operation goes on waiting when its request stays (R106). -/
theorem State.derive_arbiter_leaveQueue_eq_some_iff (s : State) (p : Derivation → Bool) (op : DeriveOp) :
    (s.leaveQueue p).arbiter.derive = some op ↔
      s.arbiter.derive = some op ∧ op.request ∉ goneNumbers p s.derive.queue := by
  unfold State.leaveQueue
  cases s.arbiter.derive with
  | none => simp
  | some waiting =>
    simp only [List.contains_iff_mem]
    exact ite_none_some_eq_some_iff (goes := fun op : DeriveOp => op.request ∈ goneNumbers p s.derive.queue)

/-! ### The DROP walk -/

/-- The numbers of the requests that a DROP of depth `d` takes out of the queue (R108). -/
def State.goneAt (s : State) (d : Nat) : List Nat := goneNumbers (fun q => q.issueDepth == d) s.derive.queue

/-- The part after a DROP of depth `d`, but for the unit's choice and the depth: the table, the winners and the queue
(R144 to R146). -/
def State.undone (s : State) (d : Nat) : State := (s.dropTable d).leaveQueue fun q => q.issueDepth == d

/-- A DROP, but for the unit's choice and the depth, in the words of the statements. -/
theorem State.undone_grantService_eq (s : State) (d : Nat) :
    s.grantService.undone d =
      { s with
        table := (s.grantService.undone d).table
        channels := (s.grantService.undone d).channels
        arbiter :=
          { s.arbiter with
            rotation := .service
            service := none
            derive := (s.grantService.undone d).arbiter.derive }
        derive :=
          { s.derive with
            queue := s.derive.queue.filter (fun q => q.issueDepth != d)
            blends := s.derive.blends.map (Blend.without (s.goneAt d))
            waitingBlends := s.derive.waitingBlends.filter (Blend.startsWithout (s.goneAt d)) } } := by
  rw [← Blend.orphan_eq_without_gone, ← Blend.not_serves_eq_startsWithout_gone]
  rfl

/-- A slot after a DROP that SERVICE is granted (R144, R145). -/
theorem State.cell_undone_grantService (s : State) (d : Nat) (i : Slot) :
    (s.grantService.undone d).cell i = (s.cell i).dropped d :=
  State.cell_dropTable s.grantService d i

/-- A channel after a DROP that SERVICE is granted (R106, R146). -/
theorem State.channel_undone_grantService (s : State) (d : Nat) (c : Chan) :
    (s.grantService.undone d).channel c =
      ((s.channel c).loseWinner fun i => (s.cell i).dropUnseats d).loseDerivation (s.goneAt d) := by
  rw [State.undone, State.channel_leaveQueue, State.channel_dropTable]
  rfl

/-- A DROP that SERVICE is granted is performed, with the counts of the part before it (R140, R144 to R146). -/
theorem exec_dropWalk_of_granted {s : State} {d : Nat} (granted : s.grantsService (.drop d)) :
    exec .dropWalk s = .next ((s.grantService.dropScope d).done (s.dropResults d)) := by
  obtain ⟨settled, grant⟩ := granted
  simp only [exec, execDropWalk, State.catchUp_of_settled settled, grant]

/-- What a DROP that SERVICE is granted adds to the table, the winners and the queue: the unit's choice, the depth and
the reply. -/
theorem State.dropScope_grantService_done (s : State) (d : Nat) (r : Results) :
    (s.grantService.dropScope d).done r =
      { (s.grantService.undone d).chooseDerive with
        depth := d - 1
        link := { s.link with state := .replyReady (.done r) } } := by
  have link : (s.grantService.undone d).chooseDerive.link = s.link :=
    State.chooseDerive_field State.link (s.grantService.undone d) fun _ _ _ => rfl
  rw [← link]
  rfl

/-- The counts of a DROP, as lengths of lists of slots and of requests (R140). -/
theorem State.dropResults_eq (s : State) (d : Nat) :
    s.dropResults d =
      .dropped (d - 1) (s.slotsWhere (Cell.dropRetires d)).length
        (s.slotsWhere fun c => (c.dropShadow d).isSome).length (s.goneAt d).length := by
  simp only [State.dropResults, State.dropRetired, State.dropRestored, State.countP_table, State.requestsAt_eq,
    State.goneAt, goneNumbers, List.length_map]

/-- Settles O49: each slot by its kind, each channel by what it loses, the counts by `State.dropResults_eq`. -/
theorem dropUndoesTheScope : Obligations.DropUndoesTheScope := by
  intro s d granted
  have slot (i : Slot) := s.cell_undone_grantService d i
  refine ⟨s.grantService.undone d, _, _, _, s.goneAt d, s.slotsWhere (Cell.dropRetires d),
    s.slotsWhere fun c => (c.dropShadow d).isSome,
    exec_dropWalk_of_granted granted, rfl, ?reply, s.undone_grantService_eq d, fun op => ?waiting,
    fun i empty => (slot i).trans (Cell.dropped_of_empty empty),
    fun i e entry stamped => (slot i).trans (Cell.dropped_of_stamped entry stamped), ?restored,
    fun i e entry other shallow => (slot i).trans (Cell.dropped_of_other entry other shallow), fun c => ?channel,
    s.nodup_slotsWhere _, rfl, fun i => State.mem_slotsWhere.trans (Cell.dropRetires_iff d _),
    s.nodup_slotsWhere _, rfl, fun i => State.mem_slotsWhere.trans (Cell.isSome_dropShadow_iff d _)⟩
  case reply => rw [State.dropScope_grantService_done, State.dropResults_eq]
  case waiting =>
    rw [← DeriveOp.request_not_mem_iff]
    exact State.derive_arbiter_leaveQueue_eq_some_iff (s.grantService.dropTable d) _ op
  case restored =>
    intro i e sh entry other shadow deep
    rw [slot, Cell.dropped_of_shadowed entry other shadow deep, Cell.written, Entry.restored]
    cases sh.body <;> cases e.body <;> rfl
  case channel =>
    have after := s.channel_undone_grantService d c
    have winner := congrArg Channel.winner after
    rw [Channel.winner_loseDerivation] at winner
    refine ⟨?frame, fun i won live => ?unseated, fun absent => winner.trans (Channel.winner_loseWinner_of_none absent),
      fun n => ?pending⟩
    case frame => rw [after, Channel.loseDerivation_eq, Channel.loseWinner_eq]
    case unseated =>
      rw [winner, Channel.winner_loseWinner_of_some won, slot]
      by_cases stays : ((s.cell i).dropped d).state = .live
      · rw [if_pos stays, if_neg (mt (Cell.dropUnseats_iff_of_live live).mp (not_not_intro stays))]
      · rw [if_neg stays, if_pos ((Cell.dropUnseats_iff_of_live live).mpr stays)]
    case pending =>
      rw [after, Channel.pendingDerivation_loseDerivation_eq_some_iff, Channel.loseWinner_eq]

end Sys2Proof.Machine
end

section
/-!
PROOFS. The host's requests as they are taken: the designators (R152), the checks of a PLACE (R154) and an AMEND (R156),
and those of the other requests (R140, R157 to R163, R174, R175).
-/
namespace Sys2Proof.Machine

-- One theorem after another: many at once would each hold a stack of their own.
set_option Elab.async false

/-! ### A request taken (R151, R168) -/

section
variable {s : State} (listens : s.listens = true)
include listens

/-- A listening part deals with a message as with one at its taking. -/
theorem next_takeMessage {f : State → State} {t : State} (taken : f s.taking = t) :
    (.next (s.catchUp.takeMessage f) : Result) = .next t :=
  congrArg _ ((State.takeMessage_of_listens listens f).trans taken)

variable {α : Type} {op : α → ServiceOp} {check : State → Except Reason α}

/-- A request that fails its check is refused at once. -/
theorem next_takeMessage_of_error {r : Reason} (failed : check s.taking = .error r) :
    (.next (s.catchUp.takeMessage fun s => s.submitChecked op (check s)) : Result) =
      .next (s.answers (.refused r)) :=
  next_takeMessage listens (by rw [failed]; rfl)

/-- A request that passes its check is submitted with what the check gave. -/
theorem next_takeMessage_of_ok {x : α} (passed : check s.taking = .ok x) :
    (.next (s.catchUp.takeMessage fun s => s.submitChecked op (check s)) : Result) = .next (s.submits (op x)) :=
  next_takeMessage listens (by rw [passed]; rfl)

end

/-! ### PLACE as it is taken (R154) -/

/-- A whole illuminant body suits LIVE and HELD. -/
theorem placedBody_of_light {state c : Nat} {b : BodyParts} {g : Gains} {m : Matrix} (low : 1 ≤ state)
    (high : state ≤ 3) (light : state ≠ 3)
    (body : b = { gains := some g, matrix := some m, reference := none, limits := none }) :
    placedBody state (some c) b =
      .ok (.illuminant (if state = 1 then .live else .held) (gradeOf g m) (classOf c)) := by
  subst body
  obtain rfl | rfl : state = 1 ∨ state = 2 := by omega
  · rfl
  · rfl

/-- A whole anchor body suits ANCHOR. -/
theorem placedBody_of_anchor {b : BodyParts} {r : Reference} {l : Limits}
    (body : b = { gains := none, matrix := none, reference := some r, limits := some l }) :
    placedBody 3 none b = .ok (.anchor { reference := r, limits := l }) := by
  subst body
  rfl

/-- A body with a part or a class too few or too many for its state suits none. -/
theorem placedBody_of_unsuited {state : Nat} {cls : Option Nat} {b : BodyParts}
    (light : state ≠ 3 →
      b.gains = none ∨ b.matrix = none ∨ cls = none ∨ b.reference ≠ none ∨ b.limits ≠ none)
    (anchor : state = 3 →
      b.gains ≠ none ∨ b.matrix ≠ none ∨ cls ≠ none ∨ b.reference = none ∨ b.limits = none) :
    placedBody state cls b = .error .wrongState := by
  unfold placedBody
  split
  · next gains matrix reference limits =>
    have is_anchor : state = 3 := by
      by_contra other
      simpa [gains, matrix, reference, limits] using light other
    rw [if_neg (by omega), if_neg (by omega)]
  · next gains matrix reference limits =>
    have is_light : state ≠ 3 := fun same => by
      simpa [gains, matrix, reference, limits] using anchor same
    rw [if_neg is_light]
  · rfl

section
variable {s : State} {q : PlaceRequest} {t : Target}

/-- A PLACE is checked alike whatever the link has shifted out. -/
theorem checkPlace_taking (s : State) (q : PlaceRequest) : checkPlace s.taking q = checkPlace s q := by
  unfold checkPlace
  rw [resolveDesignator_taking]

theorem checkPlace_of_unresolved {r : Reason} (unresolved : resolveDesignator s q.designator = .error r) :
    checkPlace s q = .error r := by
  simp only [checkPlace, unresolved]

theorem checkPlace_of_out (resolved : resolveDesignator s q.designator = .ok t) (out : ¬placeValuesOk q = true) :
    checkPlace s q = .error .range := by
  simp only [checkPlace, resolved]
  exact if_neg out

theorem checkPlace_of_unsuited (resolved : resolveDesignator s q.designator = .ok t)
    (values : placeValuesOk q = true) (unsuited : placedBody q.state q.cls q.body = .error .wrongState) :
    checkPlace s q = .error .wrongState := by
  simp only [checkPlace, resolved, values, unsuited, if_true]

theorem checkPlace_of_suited {b : BodyCopy} (resolved : resolveDesignator s q.designator = .ok t)
    (values : placeValuesOk q = true) (suited : placedBody q.state q.cls q.body = .ok b) :
    checkPlace s q =
      .ok (t, { key := q.key, pin := q.flags.testBit 0, unique := q.flags.testBit 1
                overwrite := q.flags.testBit 2, body := b }) := by
  simp only [checkPlace, resolved, values, suited, if_true]

end

/-- Settles O36: each outcome of the check, in the order of R154. -/
theorem placeIsTaken : Obligations.PlaceIsTaken := by
  intro q s listens
  have refused {r : Reason} (failed : checkPlace s q = .error r) :
      exec (.place q) s = .next (s.answers (.refused r)) :=
    next_takeMessage_of_error listens ((checkPlace_taking s q).trans failed)
  have submitted {x : Target × NewEntry} (passed : checkPlace s q = .ok x) :
      exec (.place q) s = .next (s.submits (.place x.1 x.2)) :=
    next_takeMessage_of_ok (op := fun x : Target × NewEntry => .place x.1 x.2) listens
      ((checkPlace_taking s q).trans passed)
  refine ⟨fun r unresolved => refused (checkPlace_of_unresolved unresolved),
    fun t resolved inRange inRange_iff => ?resolved⟩
  have values := inRange_iff.trans (placeValuesOk_iff q).symm
  refine ⟨fun out => refused (checkPlace_of_out resolved (mt values.mpr out)), ?light, ?anchor,
    fun fits light anchor =>
      refused (checkPlace_of_unsuited resolved (values.mp fits) (placedBody_of_unsuited light anchor))⟩
  case light =>
    intro g m c fits light body cls
    obtain ⟨-, low, high, -⟩ := inRange_iff.mp fits
    exact submitted (checkPlace_of_suited resolved (values.mp fits)
      (by rw [cls]; exact placedBody_of_light low high light body))
  case anchor =>
    intro a l fits anchor body cls
    exact submitted (checkPlace_of_suited resolved (values.mp fits)
      (by rw [anchor, cls]; exact placedBody_of_anchor body))

/-! ### AMEND as it is taken (R156) -/

/-- The values of an AMEND within their ranges. -/
theorem amendValuesOk_iff (q : AmendRequest) :
    amendValuesOk q = true ↔
      (∀ n, q.expected = some n → n ≤ 65535) ∧ (∀ k, q.key = some k → k.inRange) ∧
        (∀ c, q.cls = some c → c ≤ 3) ∧ q.body.inRange := by
  simp [amendValuesOk, keyOk_iff, bodyOk_iff, within, carriedOk_iff, classOk, and_assoc]

/-- What it is for an AMEND to carry something. -/
theorem amendCarries_iff (q : AmendRequest) :
    amendCarries q = true ↔
      q.key ≠ none ∨ q.cls ≠ none ∨ q.body.gains ≠ none ∨ q.body.matrix ≠ none ∨ q.body.reference ≠ none ∨
        q.body.limits ≠ none := by
  simp [amendCarries, Option.isSome_iff_ne_none, or_assoc]

/-- Two parts that go together are both absent or both there. -/
theorem both_none_or_both_some {α β : Type} {a : Option α} {b : Option β} (together : a = none ↔ b = none) :
    (a = none ∧ b = none) ∨ ∃ x y, a = some x ∧ b = some y := by
  cases a with
  | none => exact .inl ⟨rfl, together.mp rfl⟩
  | some x =>
    obtain ⟨y, there⟩ := Option.ne_none_iff_exists'.mp (mt together.mpr nofun)
    exact .inr ⟨x, y, rfl, there⟩

section
variable {b : BodyParts}

/-- A grade of which a part is missing. -/
theorem carriedGrade_of_partial (missing : ¬(b.gains = none ↔ b.matrix = none)) :
    carriedGrade b = .error .wrongState := by
  unfold carriedGrade
  split
  · next gains matrix => simp [gains, matrix] at missing
  · next gains matrix => simp [gains, matrix] at missing
  · rfl

/-- A grade whose two parts are both there or both absent. -/
theorem carriedGrade_of_whole (whole : b.gains = none ↔ b.matrix = none) :
    ∃ grade, carriedGrade b = .ok grade ∧ (b.gains = none → grade = none) ∧
      ∀ g m, b.gains = some g → b.matrix = some m → grade = some (gradeOf g m) := by
  rcases both_none_or_both_some whole with ⟨gains, matrix⟩ | ⟨g, m, gains, matrix⟩
  · exact ⟨none, by simp only [carriedGrade, gains, matrix], fun _ => rfl, by simp [gains]⟩
  · exact ⟨some (gradeOf g m), by simp only [carriedGrade, gains, matrix], by simp [gains],
      by simp +contextual [gains, matrix]⟩

/-- An anchor body of which a part is missing. -/
theorem carriedSupplied_of_partial (missing : ¬(b.reference = none ↔ b.limits = none)) :
    carriedSupplied b = .error .wrongState := by
  unfold carriedSupplied
  split
  · next reference limits => simp [reference, limits] at missing
  · next reference limits => simp [reference, limits] at missing
  · rfl

/-- An anchor body whose two parts are both there or both absent. -/
theorem carriedSupplied_of_whole (whole : b.reference = none ↔ b.limits = none) :
    ∃ supplied, carriedSupplied b = .ok supplied ∧ (b.reference = none → supplied = none) ∧
      ∀ r l, b.reference = some r → b.limits = some l → supplied = some { reference := r, limits := l } := by
  rcases both_none_or_both_some whole with ⟨reference, limits⟩ | ⟨r, l, reference, limits⟩
  · exact ⟨none, by simp only [carriedSupplied, reference, limits], fun _ => rfl, by simp [reference]⟩
  · exact ⟨some { reference := r, limits := l }, by simp only [carriedSupplied, reference, limits],
      by simp [reference], by simp +contextual [reference, limits]⟩

end

section
variable {s : State} {q : AmendRequest} {t : Target}

/-- An AMEND is checked alike whatever the link has shifted out. -/
theorem checkAmend_taking (s : State) (q : AmendRequest) : checkAmend s.taking q = checkAmend s q := by
  unfold checkAmend
  rw [resolveDesignator_taking]

theorem checkAmend_of_unresolved {r : Reason} (unresolved : resolveDesignator s q.designator = .error r) :
    checkAmend s q = .error r := by
  simp only [checkAmend, unresolved]

theorem checkAmend_of_out (resolved : resolveDesignator s q.designator = .ok t)
    (out : ¬(amendValuesOk q && amendCarries q) = true) : checkAmend s q = .error .range := by
  simp only [checkAmend, resolved]
  exact if_neg out

theorem checkAmend_of_partial (resolved : resolveDesignator s q.designator = .ok t)
    (values : (amendValuesOk q && amendCarries q) = true)
    (missing : ¬((q.body.gains = none ↔ q.body.matrix = none) ∧ (q.body.reference = none ↔ q.body.limits = none))) :
    checkAmend s q = .error .wrongState := by
  simp only [checkAmend, resolved, values, if_true]
  rcases not_and_or.mp missing with grade | supplied
  · rw [carriedGrade_of_partial grade]
  · rw [carriedSupplied_of_partial supplied]
    cases carriedGrade q.body <;> rfl

theorem checkAmend_of_whole {grade : Option Grade} {supplied : Option Supplied}
    (resolved : resolveDesignator s q.designator = .ok t) (values : (amendValuesOk q && amendCarries q) = true)
    (whole_grade : carriedGrade q.body = .ok grade) (whole_supplied : carriedSupplied q.body = .ok supplied) :
    checkAmend s q =
      .ok (t, { expected := q.expected, key := q.key, grade := grade, supplied := supplied
                cls := q.cls.map classOf }) := by
  simp only [checkAmend, resolved, values, if_true, whole_grade, whole_supplied]

end

/-- Settles O37: each outcome of the check, in the model's order. -/
theorem amendIsTaken : Obligations.AmendIsTaken := by
  intro q s listens
  have refused {r : Reason} (failed : checkAmend s q = .error r) :
      exec (.amend q) s = .next (s.answers (.refused r)) :=
    next_takeMessage_of_error listens ((checkAmend_taking s q).trans failed)
  have submitted {x : Target × Change} (passed : checkAmend s q = .ok x) :
      exec (.amend q) s = .next (s.submits (.amend x.1 x.2)) :=
    next_takeMessage_of_ok (op := fun x : Target × Change => .amend x.1 x.2) listens
      ((checkAmend_taking s q).trans passed)
  refine ⟨fun r unresolved => refused (checkAmend_of_unresolved unresolved),
    fun t resolved accepted whole accepted_iff whole_iff => ?resolved⟩
  have values : accepted ↔ (amendValuesOk q && amendCarries q) = true := by
    rw [accepted_iff, Bool.and_eq_true, amendValuesOk_iff, amendCarries_iff]
  refine ⟨fun out => refused (checkAmend_of_out resolved (mt values.mpr out)),
    fun fits missing => refused (checkAmend_of_partial resolved (values.mp fits) (mt whole_iff.mpr missing)),
    fun fits complete => ?submitted⟩
  obtain ⟨grade_whole, supplied_whole⟩ := whole_iff.mp complete
  obtain ⟨grade, grade_eq, no_grade, some_grade⟩ := carriedGrade_of_whole grade_whole
  obtain ⟨supplied, supplied_eq, no_supplied, some_supplied⟩ := carriedSupplied_of_whole supplied_whole
  exact ⟨_, submitted (checkAmend_of_whole resolved (values.mp fits) grade_eq supplied_eq), rfl, rfl, rfl,
    no_grade, no_supplied, some_grade, some_supplied⟩

/-! ### Designators (R152) -/

section
variable {s : State}

theorem resolveDesignator_absolute_of_le {n : Nat} (out : 512 ≤ n) :
    resolveDesignator s (.absolute n) = .error .range :=
  dif_neg (Nat.not_lt.mpr out)

theorem resolveDesignator_absolute_val (i : Slot) :
    resolveDesignator s (.absolute i.val) = .ok { ref := .at i, viaCursor := false } :=
  dif_pos i.isLt

/-- An offset out of range, or one that leads out of the table. -/
theorem resolveDesignator_cursorOffset_of_out {o : Int}
    (out : o < -511 ∨ 511 < o ∨ s.matching.service.cursor.val + o < 0 ∨ 511 < s.matching.service.cursor.val + o) :
    resolveDesignator s (.cursorOffset o) = .error .range := by
  simp only [resolveDesignator]
  split
  · rfl
  · exact dif_neg (by omega)

/-- An offset that leads to a slot. -/
theorem resolveDesignator_cursorOffset_of_slot {o : Int} {i : Slot} (low : -511 ≤ o) (high : o ≤ 511)
    (slot : (i.val : Int) = s.matching.service.cursor.val + o) :
    resolveDesignator s (.cursorOffset o) = .ok { ref := .at i, viaCursor := true } := by
  simp only [resolveDesignator, ← slot, Int.toNat_natCast]
  rw [if_neg (by omega), dif_pos i.isLt]

theorem resolveDesignator_lastMatch_of_none (absent : s.matching.service.lastMatch = none) :
    resolveDesignator s .lastMatch = .error .noMatch := by
  simp only [resolveDesignator, absent]

theorem resolveDesignator_lastMatch_of_some {i : Slot} (found : s.matching.service.lastMatch = some i) :
    resolveDesignator s .lastMatch = .ok { ref := .at i, viaCursor := false } := by
  simp only [resolveDesignator, found]

end

/-! ### The other requests as they are taken -/

/-- Neither LIVE nor HELD (R157, R178). -/
theorem lightStateOf_of_other {n : Nat} (not_live : n ≠ 1) (not_held : n ≠ 2) : lightStateOf n = .error .range := by
  rw [lightStateOf, if_neg not_live, if_neg not_held]

section
variable {s : State} {d : Designator} {n : Nat} {t : Target}

/-- A SET STATE is checked alike whatever the link has shifted out. -/
theorem checkSetState_taking (s : State) (d : Designator) (n : Nat) :
    checkSetState s.taking d n = checkSetState s d n := by
  unfold checkSetState
  rw [resolveDesignator_taking]

theorem checkSetState_of_unresolved {r : Reason} (unresolved : resolveDesignator s d = .error r) :
    checkSetState s d n = .error r := by
  simp only [checkSetState, unresolved]

theorem checkSetState_of_other {r : Reason} (resolved : resolveDesignator s d = .ok t)
    (other : lightStateOf n = .error r) : checkSetState s d n = .error r := by
  simp only [checkSetState, resolved, other]

theorem checkSetState_of_light {st : LightState} (resolved : resolveDesignator s d = .ok t)
    (light : lightStateOf n = .ok st) : checkSetState s d n = .ok (t, st) := by
  simp only [checkSetState, resolved, light]

/-- A CLOSE SCOPE with a mode that is neither KEEP nor DROP (R140). -/
theorem State.takeCloseScope_of_le {mode : Nat} (unknown : 2 ≤ mode) : s.takeCloseScope mode = s.refuse .range :=
  if_pos unknown

/-- A CLOSE SCOPE without a scope (R140). -/
theorem State.takeCloseScope_of_depth_zero {mode : Nat} (known : mode < 2) (none_open : s.depth = 0) :
    s.takeCloseScope mode = s.refuse .noScope := by
  rw [State.takeCloseScope, if_neg (Nat.not_le.mpr known), if_pos none_open]

/-- A CLOSE SCOPE of an open scope (R140). -/
theorem State.takeCloseScope_of_depth_ne_zero {mode : Nat} (known : mode < 2) (scope : s.depth ≠ 0) :
    s.takeCloseScope mode = s.submitService (if mode = 0 then .keep s.depth else .drop s.depth) := by
  rw [State.takeCloseScope, if_neg (Nat.not_le.mpr known), if_neg scope]

/-- Where a SEEK NEXT starts without a last match (R163). -/
theorem ServiceContext.nextStart_of_none {x : ServiceContext} (absent : x.lastMatch = none) : x.nextStart = 0 := by
  simp only [ServiceContext.nextStart, absent]

/-- Where a SEEK NEXT starts after a last match (R163). -/
theorem ServiceContext.nextStart_of_some {x : ServiceContext} {i : Slot} (found : x.lastMatch = some i) :
    x.nextStart = i.val + 1 := by
  simp only [ServiceContext.nextStart, found]

variable (listens : s.listens = true)
include listens

/-- A SEEK is judged by its key (R162). -/
theorem exec_seek_eq (k : Key) :
    exec (.seek k) s =
      .next (if keyOk k then s.submits (.seek k) else s.answers (.refused .range)) :=
  next_takeMessage listens rfl

/-- A SEEK NEXT without a last seek key (R163). -/
theorem exec_seekNext_of_none (absent : s.matching.service.lastSeekKey = none) :
    exec .seekNext s = .next (s.answers (.refused .noMatch)) := by
  have absent : s.taking.matching.service.lastSeekKey = none := absent
  exact next_takeMessage listens (by simp only [absent]; rfl)

/-- A SEEK NEXT with a last seek key (R163). -/
theorem exec_seekNext_of_some {k : Key} (held : s.matching.service.lastSeekKey = some k) :
    exec .seekNext s = .next (s.submits (.seekNext k s.matching.service.nextStart)) := by
  have held : s.taking.matching.service.lastSeekKey = some k := held
  exact next_takeMessage listens (by simp only [held]; rfl)

end

/-- Settles O38: the designators one by one, then each request by its check. -/
theorem requestsAreChecked : Obligations.RequestsAreChecked := by
  refine ⟨fun s => ⟨fun n => resolveDesignator_absolute_of_le, resolveDesignator_absolute_val, rfl,
      fun o => resolveDesignator_cursorOffset_of_out, fun o i => resolveDesignator_cursorOffset_of_slot,
      resolveDesignator_lastMatch_of_none, fun i => resolveDesignator_lastMatch_of_some, rfl, rfl⟩,
    fun d s listens => ⟨fun r n unresolved => ?unresolved, fun t resolved => ?resolved, fun k => ?seek,
      exec_seekNext_of_none listens, fun k held => ?seekNext,
      fun mode unknown => next_takeMessage listens (State.takeCloseScope_of_le unknown),
      fun none_open mode known => next_takeMessage listens (State.takeCloseScope_of_depth_zero known none_open),
      fun scope =>
        ⟨next_takeMessage listens (State.takeCloseScope_of_depth_ne_zero (s := s.taking) (by decide) scope),
          next_takeMessage listens (State.takeCloseScope_of_depth_ne_zero (s := s.taking) (by decide) scope)⟩,
      next_takeMessage listens rfl, next_takeMessage listens rfl⟩⟩
  case unresolved =>
    have failed := (resolveDesignator_taking s d).trans unresolved
    have refused (op : Target → ServiceOp) :=
      next_takeMessage_of_error (op := op) (check := (resolveDesignator · d)) listens failed
    simp only [List.forall_mem_cons]
    exact ⟨refused .retire, next_takeMessage_of_error listens (checkSetState_of_unresolved failed), refused .pin,
      refused .unpin, refused .clearCounts, refused .readEntry,
      fun _ absent => absurd absent List.not_mem_nil⟩
  case resolved =>
    have passed := (resolveDesignator_taking s d).trans resolved
    have submitted (op : Target → ServiceOp) :=
      next_takeMessage_of_ok (op := op) (check := (resolveDesignator · d)) listens passed
    have moved {n : Nat} {st : LightState} (light : lightStateOf n = .ok st) :
        exec (.setState d n) s = .next (s.submits (.setState t st)) :=
      next_takeMessage_of_ok (op := fun x : Target × LightState => .setState x.1 x.2)
        (check := (checkSetState · d n)) (x := (t, st)) listens (checkSetState_of_light passed light)
    exact ⟨submitted .retire, submitted .pin, submitted .unpin, submitted .clearCounts, submitted .readEntry,
      moved rfl, moved rfl, fun n not_live not_held =>
        next_takeMessage_of_error listens (checkSetState_of_other passed (lightStateOf_of_other not_live not_held))⟩
  case seek =>
    rw [exec_seek_eq listens, ← keyOk_iff]
    exact ⟨fun fits => by rw [if_pos fits], fun out => by rw [if_neg out]⟩
  case seekNext =>
    rw [exec_seekNext_of_some listens held]
    exact ⟨fun absent => by rw [ServiceContext.nextStart_of_none absent],
      fun i found => by rw [ServiceContext.nextStart_of_some found]⟩

end Sys2Proof.Machine
end

section
/-!
PROOFS. The host's single-slot requests at their grants (R152, R153): PLACE (R155), AMEND (R156), SET STATE (R157), PIN
and UNPIN (R158), CLEAR COUNTS (R159), RETIRE (R160) and READ ENTRY (R161).
-/
namespace Sys2Proof.Machine

-- One theorem after another: many at once would each hold a stack of their own.
set_option Elab.async false

/-! ### A grant and its single-slot operation (R44, R151) -/

section
variable {s : State} {t : Target}

theorem exec_placeGrant_of_granted {n : NewEntry} (granted : s.grantsService (.place t n)) :
    exec .placeGrant s = .next (s.grantService.atSlot t (State.placeAt n)) := by
  obtain ⟨settled, grant⟩ := granted
  simp only [exec, execPlaceGrant, State.catchUp_of_settled settled, grant]

theorem exec_amendGrant_of_granted {c : Change} (granted : s.grantsService (.amend t c)) :
    exec .amendGrant s = .next (s.grantService.atSlot t (State.amendAt c)) := by
  obtain ⟨settled, grant⟩ := granted
  simp only [exec, execAmendGrant, State.catchUp_of_settled settled, grant]

theorem exec_setStateGrant_of_granted {st : LightState} (granted : s.grantsService (.setState t st)) :
    exec .setStateGrant s = .next (s.grantService.atSlot t (State.setStateAt st)) := by
  obtain ⟨settled, grant⟩ := granted
  simp only [exec, execSetStateGrant, State.catchUp_of_settled settled, grant]

theorem exec_pin_of_granted {pin : Bool} {c : Instr}
    (granted :
      pin = true ∧ c = .pinGrant ∧ s.grantsService (.pin t) ∨
        pin = false ∧ c = .unpinGrant ∧ s.grantsService (.unpin t)) :
    exec c s = .next (s.grantService.atSlot t (State.setPinAt pin)) := by
  rcases granted with ⟨rfl, rfl, settled, grant⟩ | ⟨rfl, rfl, settled, grant⟩
  · simp only [exec, execPinGrant, State.catchUp_of_settled settled, grant]
  · simp only [exec, execUnpinGrant, State.catchUp_of_settled settled, grant]

theorem exec_clearCountsGrant_of_granted (granted : s.grantsService (.clearCounts t)) :
    exec .clearCountsGrant s = .next (s.grantService.atSlot t State.clearCountsAt) := by
  obtain ⟨settled, grant⟩ := granted
  simp only [exec, execClearCountsGrant, State.catchUp_of_settled settled, grant]

theorem exec_retireGrant_of_granted (granted : s.grantsService (.retire t)) :
    exec .retireGrant s = .next (s.grantService.atSlot t State.retireAt) := by
  obtain ⟨settled, grant⟩ := granted
  simp only [exec, execRetireGrant, State.catchUp_of_settled settled, grant]

theorem exec_readEntryGrant_of_granted (granted : s.grantsService (.readEntry t)) :
    exec .readEntryGrant s = .next (s.grantService.atSlot t State.readAt) := by
  obtain ⟨settled, grant⟩ := granted
  simp only [exec, execReadEntryGrant, State.catchUp_of_settled settled, grant]

end

/-! ### What a single-slot operation comes to (R151 to R153) -/

section
variable {s : State} {t : Target} {i : Slot} {c : Instr} {act : State → Slot → State × Reply} {r : Reply}
  (performed : exec c s = .next (s.grantService.atSlot t act))
include performed

/-- Without a free end it is refused, and nothing else changes. -/
theorem exec_of_noFree (absent : t.slot s = none) : exec c s = .next (s.completes t (.refused .noFree)) := by
  rw [performed, State.atSlot_noFree absent]

/-- An operation that writes nothing itself is completed with its reply. -/
theorem exec_of_unwritten (slot : t.slot s = some i) (acted : act s.grantService i = (s.grantService, r)) :
    exec c s = .next (s.completes t r) := by
  rw [performed, State.atSlot_slot slot, acted, State.completes_eq]

/-- An operation that writes slots and channels has them written beside its completion. -/
theorem exec_of_written (slot : t.slot s = some i) {table : Table} {channels : Vector Channel 4}
    (acted : act s.grantService i = ({ s.grantService with table := table, channels := channels }, r)) :
    exec c s = .next { s.completes t r with table := table, channels := channels } := by
  rw [performed, State.atSlot_slot slot, acted]
  cases via : t.viaCursor <;> simp only [State.completes, via] <;> rfl

/-- An operation that writes its slot alone. -/
theorem exec_of_setCell (slot : t.slot s = some i) {x : Cell}
    (acted : act s.grantService i = (s.grantService.setCell i x, r)) :
    exec c s = .next { s.completes t r with table := s.table.set i x } :=
  exec_of_written performed slot acted

end

/-! ### PLACE at its slot (R155) -/

section
variable {s : State} {n : NewEntry} {i : Slot}

/-- A slot that holds an entry is not EMPTY. -/
theorem Cell.isEmpty_eq_false_iff (c : Cell) : c.isEmpty = false ↔ c.entry ≠ none := by
  rw [← Bool.not_eq_true, Cell.isEmpty_iff]

/-- A PLACE onto a non-EMPTY slot without overwrite. -/
theorem State.placeAt_of_occupied (occupied : (s.cell i).entry ≠ none) (kept : n.overwrite = false) :
    State.placeAt n s i = (s, .refused .slotOccupied) :=
  if_pos (by rw [(Cell.isEmpty_eq_false_iff _).mpr occupied, kept]; rfl)

/-- A slot that a PLACE may write is not refused as occupied. -/
theorem State.not_occupied (permitted : (s.cell i).entry = none ∨ n.overwrite = true) :
    ¬(!(s.cell i).isEmpty && !n.overwrite) = true := by
  rcases permitted with empty | overwrite
  · simp [(Cell.isEmpty_iff _).mpr empty]
  · simp [overwrite]

/-- A PLACE with unique of a key that is taken. -/
theorem State.placeAt_of_duplicate (permitted : (s.cell i).entry = none ∨ n.overwrite = true)
    (duplicate : (n.unique && s.keyTaken n.key) = true) : State.placeAt n s i = (s, .refused .duplicate) := by
  rw [State.placeAt, if_neg (State.not_occupied permitted), if_pos duplicate]

/-- A PLACE onto an EMPTY slot. -/
theorem State.placeAt_of_empty (empty : (s.cell i).entry = none)
    (single : ¬(n.unique && s.keyTaken n.key) = true) : State.placeAt n s i = s.create n i := by
  rw [State.placeAt, if_neg (State.not_occupied (.inl empty)), if_neg single,
    if_pos ((Cell.isEmpty_iff _).mpr empty)]

/-- A PLACE onto a non-EMPTY slot with overwrite: a retirement comes first. -/
theorem State.placeAt_of_overwrite (occupied : (s.cell i).entry ≠ none) (overwrite : n.overwrite = true)
    (single : ¬(n.unique && s.keyTaken n.key) = true) : State.placeAt n s i = (s.retire i).create n i := by
  rw [State.placeAt, if_neg (State.not_occupied (.inr overwrite)), if_neg single,
    if_neg (mt (Cell.isEmpty_iff _).mp occupied)]

/-- A slot after a retirement and a creation: its generation has gone up twice (R17, R155). -/
theorem State.create_retire (s : State) (n : NewEntry) (i : Slot) :
    (s.retire i).create n i =
      ((s.retire i).setCell i
          { generation := nextGeneration (nextGeneration (s.cell i).generation), entry := some (n.entry s.depth) },
        .done (.slotGeneration i (nextGeneration (nextGeneration (s.cell i).generation)))) := by
  simp only [State.create, State.cell_retire, if_true]
  rfl

end

/-- Settles O40: each outcome of a PLACE at its slot, in the order of R155. -/
theorem placeCreatesItsEntry : Obligations.PlaceCreatesItsEntry := by
  intro s t n granted
  have performed := exec_placeGrant_of_granted granted
  refine ⟨rfl, exec_of_noFree performed, fun i created duplicate slot duplicate_iff created_eq => ?slot⟩
  have taken : duplicate ↔ (n.unique && s.grantService.keyTaken n.key) = true := by
    rw [duplicate_iff, Bool.and_eq_true, State.keyTaken_iff]
    rfl
  obtain rfl : created = n.entry s.depth := created_eq
  refine ⟨fun occupied kept => exec_of_unwritten performed slot (State.placeAt_of_occupied occupied kept),
    fun permitted double => exec_of_unwritten performed slot (State.placeAt_of_duplicate permitted (taken.mp double)),
    fun empty single => exec_of_setCell performed slot (State.placeAt_of_empty empty (mt taken.mpr single)),
    fun occupied overwrite single => ?overwrite⟩
  have acted := (State.placeAt_of_overwrite (s := s.grantService) occupied overwrite (mt taken.mpr single)).trans
    (s.grantService.create_retire n i)
  refine ⟨_, exec_of_written performed slot acted, rfl, fun j => ?slots, fun c => ?channels⟩
  case slots =>
    refine (State.cell_setCell (s.retire i) i j _).trans (ite_congr rfl (fun _ => rfl) fun other => ?_)
    rw [State.cell_retire, if_neg other]
  case channels => exact (s.channel_retire i c).trans (Channel.loseWinner_eq_without i _)

/-! ### An amending request at its slot (R142, R143) -/

section
variable {s : State} {i : Slot} {e : Entry} {bump : Bool} {f : Entry → Entry}

/-- An amending request that is NESTED. -/
theorem State.amendEntry_of_nests (nests : e.nests s.depth) : s.amendEntry i e bump f = none := by
  rw [State.amendEntry, Entry.amended_of_nests nests]

/-- An amending request that writes state, key or supplied body (R17). -/
theorem State.amendEntry_true_of_not_nests (owned : ¬e.nests s.depth) :
    s.amendEntry i e true f = some (s.setCell i ((s.cell i).written (f (e.forChange s.depth)))) := by
  rw [State.amendEntry, Entry.amended_of_not_nests owned]
  rfl

/-- An amending request that leaves the generation (R17). -/
theorem State.amendEntry_false_of_not_nests (owned : ¬e.nests s.depth) :
    s.amendEntry i e false f = some (s.setCell i ((s.cell i).touchedUp (f (e.forChange s.depth)))) := by
  rw [State.amendEntry, Entry.amended_of_not_nests owned]
  rfl

end

/-- A shadow taken first leaves the key. -/
@[simp] theorem Entry.key_forChange (d : Nat) (e : Entry) : (e.forChange d).key = e.key := by
  unfold Entry.forChange
  split <;> rfl

/-- A shadow taken first leaves the body. -/
@[simp] theorem Entry.body_forChange (d : Nat) (e : Entry) : (e.forChange d).body = e.body := by
  unfold Entry.forChange
  split <;> rfl

/-! ### AMEND at its slot (R156) -/

/-- What it is for an expected generation to differ (R18). -/
theorem Change.isStale_iff (c : Change) (generation : Nat) :
    c.isStale generation = true ↔ ∃ g, c.expected = some g ∧ g ≠ generation := by
  unfold Change.isStale
  cases c.expected with
  | none => simp
  | some g => simp

/-- What it is for a change to suit the kind of an entry. -/
theorem Change.suits_iff (c : Change) (b : Body) :
    c.suits b = true ↔
      ((∃ st x, b = .illuminant st x) → c.supplied = none) ∧
        ((∃ a, b = .anchor a) → c.grade = none ∧ c.cls = none) := by
  cases b with
  | illuminant st x => simp [Change.suits]
  | anchor a => simp [Change.suits]

/-- What it is for a change to leave the generation (R17). -/
theorem Change.bumps_eq_false_iff (c : Change) :
    c.bumps = false ↔ c.key = none ∧ c.grade = none ∧ c.supplied = none := by
  simp [Change.bumps, and_assoc]

/-- What an AMEND writes: a shadow taken first leaves key and body. -/
theorem Change.on_forChange (c : Change) (d : Nat) (e : Entry) :
    c.on (e.forChange d) = { e.forChange d with key := c.key.getD e.key, body := c.onBody e.body } := by
  rw [Change.on, Entry.key_forChange, Entry.body_forChange]

section
variable {s : State} {c : Change} {i : Slot} {e : Entry}

theorem State.amendAt_of_empty (empty : (s.cell i).entry = none) :
    State.amendAt c s i = (s, .refused .slotEmpty) := by
  simp only [State.amendAt, empty]

variable (entry : (s.cell i).entry = some e)
include entry

theorem State.amendAt_of_stale (stale : c.isStale (s.cell i).generation = true) :
    State.amendAt c s i = (s, .refused .stale) := by
  simp only [State.amendAt, entry, if_pos stale]

variable (fresh : ¬c.isStale (s.cell i).generation = true)
include fresh

theorem State.amendAt_of_unsuited (unsuited : ¬c.suits e.body = true) :
    State.amendAt c s i = (s, .refused .wrongState) := by
  simp [State.amendAt, entry, fresh, unsuited]

variable (suits : c.suits e.body = true)
include suits

/-- An AMEND that is NESTED. -/
theorem State.amendAt_of_nests (nests : e.nests s.depth) : State.amendAt c s i = (s, .refused .nested) := by
  simp [State.amendAt, entry, fresh, suits, State.amendEntry_of_nests nests]

/-- An AMEND whose change is made replies with the generation it leaves. -/
theorem State.amendAt_of_amended {s' : State} (amended : s.amendEntry i e c.bumps c.on = some s') :
    State.amendAt c s i = (s', .done (.generation (s'.cell i).generation)) := by
  simp [State.amendAt, entry, fresh, suits, amended]

/-- An AMEND that is not refused writes its entry, with one increment of generation where it carries key or body. -/
theorem State.amendAt_of_not_nests (owned : ¬e.nests s.depth) {generation : Nat}
    (generation_eq : generation =
      if c.key = none ∧ c.grade = none ∧ c.supplied = none then (s.cell i).generation
      else nextGeneration (s.cell i).generation) :
    State.amendAt c s i =
      (s.setCell i { generation := generation, entry := some (c.on (e.forChange s.depth)) },
        .done (.generation generation)) := by
  have amended : s.amendEntry i e c.bumps c.on =
      some (s.setCell i { generation := generation, entry := some (c.on (e.forChange s.depth)) }) := by
    simp only [← Change.bumps_eq_false_iff] at generation_eq
    subst generation_eq
    cases c.bumps with
    | true => exact State.amendEntry_true_of_not_nests owned
    | false => exact State.amendEntry_false_of_not_nests owned
  rw [State.amendAt_of_amended entry fresh suits amended, State.cell_setCell_self]

end

/-- Settles O41: each outcome of an AMEND at its slot, in the order of R156. -/
theorem amendChangesItsEntry : Obligations.AmendChangesItsEntry := by
  intro s t c granted
  have performed := exec_amendGrant_of_granted granted
  refine ⟨rfl, exec_of_noFree performed, fun i slot =>
    ⟨fun empty => exec_of_unwritten performed slot (State.amendAt_of_empty empty),
      fun e stale suits generation entry stale_iff suits_iff generation_eq => ?entry⟩⟩
  have stale_iff := stale_iff.trans (c.isStale_iff _).symm
  have suits_iff := suits_iff.trans (c.suits_iff _).symm
  have entry' : (s.grantService.cell i).entry = some e := entry
  have fresh (current : ¬stale) : ¬c.isStale (s.grantService.cell i).generation = true := mt stale_iff.mpr current
  refine ⟨fun differs => exec_of_unwritten performed slot (State.amendAt_of_stale entry' (stale_iff.mp differs)),
    fun current unsuited =>
      exec_of_unwritten performed slot (State.amendAt_of_unsuited entry' (fresh current) (mt suits_iff.mpr unsuited)),
    fun current suited nests =>
      exec_of_unwritten performed slot
        (State.amendAt_of_nests entry' (fresh current) (suits_iff.mp suited) nests),
    fun current suited owned => ?changed⟩
  have acted :=
    State.amendAt_of_not_nests entry' (fresh current) (suits_iff.mp suited) owned generation_eq
  rw [Change.on_forChange] at acted
  exact exec_of_setCell performed slot acted

/-! ### SET STATE at its slot (R157) -/

/-- A body moved to a state, in the words of the statements (R136). -/
theorem Illuminant.moved_eq (st : LightState) (x : Illuminant) :
    x.moved st = { x with doubt := if st = .live then 0 else x.doubt } := by
  cases st <;> rfl

section
variable {s : State} {st now : LightState} {i : Slot} {e : Entry} {x : Illuminant}

theorem State.setStateAt_of_empty (empty : (s.cell i).entry = none) :
    State.setStateAt st s i = (s, .refused .slotEmpty) := by
  simp only [State.setStateAt, empty]

variable (entry : (s.cell i).entry = some e)
include entry

theorem State.setStateAt_of_anchor {a : AnchorBody} (anchor : e.body = .anchor a) :
    State.setStateAt st s i = (s, .refused .wrongState) := by
  simp only [State.setStateAt, entry, anchor]

theorem State.setStateAt_of_same (body : e.body = .illuminant st x) :
    State.setStateAt st s i = (s, .refused .wrongState) := by
  simp only [State.setStateAt, entry, body, if_true]

variable (body : e.body = .illuminant now x) (other : now ≠ st)
include body other

theorem State.setStateAt_of_nests (nests : e.nests s.depth) :
    State.setStateAt st s i = (s, .refused .nested) := by
  simp only [State.setStateAt, entry, body, if_neg other, State.amendEntry_of_nests nests]

/-- A SET STATE that is not refused writes the state; a move to HELD takes the winners that name the slot. -/
theorem State.setStateAt_of_not_nests (owned : ¬e.nests s.depth) {moved : State}
    (moved_eq : moved =
      s.setCell i ((s.cell i).written ((e.forChange s.depth).withLight st (x.moved st)))) :
    State.setStateAt st s i =
      (if st = .held then moved.clearWinners (fun j => j == i) else moved,
        .done (.generation (nextGeneration (s.cell i).generation))) := by
  simp only [State.setStateAt, entry, body, if_neg other, State.amendEntry_true_of_not_nests owned, ← moved_eq]
  rw [moved_eq, State.cell_setCell_self]
  rfl

end

/-- Settles O42: each outcome of a SET STATE at its slot; its winners by the state it is moved to. -/
theorem setStateMovesItsEntry : Obligations.SetStateMovesItsEntry := by
  intro s t st granted
  have performed := exec_setStateGrant_of_granted granted
  refine ⟨rfl, exec_of_noFree performed, fun i slot =>
    ⟨fun empty => exec_of_unwritten performed slot (State.setStateAt_of_empty empty),
      fun e a entry anchor => exec_of_unwritten performed slot (State.setStateAt_of_anchor entry anchor),
      fun e x entry body => exec_of_unwritten performed slot (State.setStateAt_of_same entry body),
      fun e now x entry body other =>
        ⟨fun nests => exec_of_unwritten performed slot (State.setStateAt_of_nests entry body other nests),
          fun owned => ?moved⟩⟩⟩
  have acted := State.setStateAt_of_not_nests (s := s.grantService) entry body other owned rfl
  rw [← Illuminant.moved_eq]
  cases st with
  | live => exact ⟨_, exec_of_setCell performed slot acted, rfl, fun c => rfl⟩
  | held =>
    refine ⟨_, exec_of_written performed slot acted, rfl, fun c => ?_⟩
    exact (s.channel_clearWinners _ c).trans (Channel.loseWinner_eq_without i _)

/-! ### PIN and UNPIN at their slot (R158) -/

section
variable {s : State} {pin : Bool} {i : Slot} {e : Entry}

theorem State.setPinAt_of_empty (empty : (s.cell i).entry = none) :
    State.setPinAt pin s i = (s, .refused .slotEmpty) := by
  simp only [State.setPinAt, empty]

theorem State.setPinAt_of_nests (entry : (s.cell i).entry = some e) (nests : e.nests s.depth) :
    State.setPinAt pin s i = (s, .refused .nested) := by
  simp only [State.setPinAt, entry, State.amendEntry_of_nests nests]

/-- A PIN or an UNPIN that is not refused writes the pin. -/
theorem State.setPinAt_of_not_nests (entry : (s.cell i).entry = some e) (owned : ¬e.nests s.depth) :
    State.setPinAt pin s i =
      (s.setCell i ((s.cell i).touchedUp { e.forChange s.depth with pin := pin }),
        .done (.pinGeneration pin (s.cell i).generation)) := by
  simp only [State.setPinAt, entry, State.amendEntry_false_of_not_nests owned, State.cell_setCell_self]
  rfl

end

/-- Settles O43: each outcome of a PIN or an UNPIN at its slot. -/
theorem pinAndUnpinWriteThePin : Obligations.PinAndUnpinWriteThePin := by
  intro s t pin c granted
  have performed := exec_pin_of_granted granted
  exact ⟨rfl, exec_of_noFree performed, fun i slot =>
    ⟨fun empty => exec_of_unwritten performed slot (State.setPinAt_of_empty empty), fun e entry =>
      ⟨fun nests => exec_of_unwritten performed slot (State.setPinAt_of_nests entry nests),
        fun owned => exec_of_setCell performed slot (State.setPinAt_of_not_nests entry owned)⟩⟩⟩

/-! ### CLEAR COUNTS and RETIRE at their slot (R159, R160) -/

section
variable {s : State} {i : Slot} {e : Entry}

theorem State.clearCountsAt_of_empty (empty : (s.cell i).entry = none) :
    State.clearCountsAt s i = (s, .refused .slotEmpty) := by
  simp only [State.clearCountsAt, empty]

theorem State.clearCountsAt_of_entry (entry : (s.cell i).entry = some e) :
    State.clearCountsAt s i =
      (s.setCell i ((s.cell i).touchedUp { e with body := e.body.cleared }),
        .done (.generation (s.cell i).generation)) := by
  simp only [State.clearCountsAt, entry]

theorem State.retireAt_of_empty (empty : (s.cell i).entry = none) :
    State.retireAt s i = (s, .refused .slotEmpty) :=
  if_pos ((Cell.isEmpty_iff _).mpr empty)

theorem State.retireAt_of_entry (occupied : (s.cell i).entry ≠ none) :
    State.retireAt s i = (s.retire i, .done (.slotGeneration i (s.cell i).retired.generation)) :=
  if_neg (mt (Cell.isEmpty_iff _).mp occupied)

end

/-- Settles O44: each outcome of the three at their slot. -/
theorem clearRetireAndReadAtTheirGrants : Obligations.ClearRetireAndReadAtTheirGrants := by
  intro s t
  refine ⟨rfl, fun granted => ?clearCounts, fun granted => ?retire, fun granted => ?readEntry⟩
  case clearCounts =>
    have performed := exec_clearCountsGrant_of_granted granted
    exact ⟨exec_of_noFree performed, fun i slot =>
      ⟨fun empty => exec_of_unwritten performed slot (State.clearCountsAt_of_empty empty),
        fun e entry => exec_of_setCell performed slot (State.clearCountsAt_of_entry entry)⟩⟩
  case retire =>
    have performed := exec_retireGrant_of_granted granted
    refine ⟨exec_of_noFree performed, fun i slot =>
      ⟨fun empty => exec_of_unwritten performed slot (State.retireAt_of_empty empty), fun occupied =>
        ⟨_, exec_of_written performed slot (State.retireAt_of_entry occupied), rfl, fun c => ?_⟩⟩⟩
    exact (s.channel_retire i c).trans (Channel.loseWinner_eq_without i _)
  case readEntry =>
    have performed := exec_readEntryGrant_of_granted granted
    exact ⟨exec_of_noFree performed, fun i slot => exec_of_unwritten performed slot rfl⟩

end Sys2Proof.Machine
end

section
/-!
PROOFS. The select periods that carry no request taken: FETCH, whole and cut short (R167), a message dropped, cut short or
not decoded (R166, R168), and an aborted period (R165).
-/
namespace Sys2Proof.Machine

-- One theorem after another: many at once would each hold a stack of their own.
set_option Elab.async false

/-! ### A message by the state of the link (R165, R166) -/

section
variable {s : State} (ready : s.lines.ready = true)
include ready

/-- In IDLE a message is dealt with. -/
theorem State.openMessage_of_idle (idle : s.link.state = .idle) (tail : List Byte) (f : State → State) :
    s.openMessage tail f = f (s.period .idle tail) := by
  rw [State.openMessage, if_pos ready, idle]

/-- In WORKING and in REPLY READY a message is dropped (R166). -/
theorem State.openMessage_of_busy (busy : s.link.state ≠ .idle) (tail : List Byte) (f : State → State) :
    s.openMessage tail f = s.period s.link.state.status [] := by
  rw [State.openMessage, if_pos ready]
  cases state : s.link.state with
  | idle => exact absurd state busy
  | working work => rfl
  | replyReady reply => rfl

/-- A whole message, or one that cannot be decoded, is dropped in WORKING and in REPLY READY, and so is what is listed for
it. -/
theorem State.takeMessage_of_busy (busy : s.link.state ≠ .idle) (f : State → State) :
    s.takeMessage f = State.period { s with trailing := s.trailing.tail } s.link.state.status [] :=
  State.openMessage_of_busy (s := { s with trailing := s.trailing.tail }) ready busy _ f

end

/-- Settles O39: a message finds the link busy, with the status byte of its state. -/
theorem messagesAreDroppedWhileBusy : Obligations.MessagesAreDroppedWhileBusy := by
  intro c s status settled ready occupied
  have caught := State.catchUp_of_settled settled
  obtain ⟨busy, rfl⟩ : s.link.state ≠ .idle ∧ statusByte s.link.state.status = status := by
    obtain ⟨⟨work, working⟩, rfl⟩ | ⟨⟨reply, waiting⟩, rfl⟩ := occupied
    · rw [working]
      exact ⟨nofun, rfl⟩
    · rw [waiting]
      exact ⟨nofun, rfl⟩
  constructor
  · intro carries
    obtain ⟨f, taken⟩ := exec_of_carriesMessage carries s
    rw [taken, caught, State.takeMessage_of_busy ready busy]
    rfl
  · rintro code rfl
    simp only [exec, execMessageCutShort, caught, State.openMessage_of_busy ready busy]
    rfl

/-! ### FETCH and the messages that are no requests (R167, R168) -/

section
variable {s : State} (settled : s.settled = true) (ready : s.lines.ready = true)
include settled ready

/-- A FETCH whose status byte named REPLY READY shifts the waiting reply out and frees the link (R167). -/
theorem exec_fetch_of_replyReady {reply : Reply} (waiting : s.link.state = .replyReady reply) (extra : Nat) :
    exec (.fetch .replyReady extra) s =
      .next (s.setLink { state := .idle, out := 0x83 :: (reply.bytes ++ fillers extra) }) := by
  simp only [exec, execFetch, State.catchUp_of_settled settled, ready, waiting, if_true]
  rfl

/-- A FETCH whose status byte named IDLE or WORKING shifts out filler (R165, R167). -/
theorem exec_fetch_of_other {shown : LinkStatus} (other : shown ≠ .replyReady) (extra : Nat) :
    exec (.fetch shown extra) s = .next (s.period shown (fillers extra)) := by
  simp only [exec, execFetch, State.catchUp_of_settled settled, ready, if_true]
  cases shown with
  | idle => rfl
  | working => rfl
  | replyReady => exact absurd rfl other

/-- A FETCH cut short within the reply keeps it and raises LINK_ERROR with detail 00h (R167). -/
theorem exec_fetchCutShort_of_lt {reply : Reply} (waiting : s.link.state = .replyReady reply) {got : Nat}
    (short : got < reply.bytes.length) :
    exec (.fetchCutShort got) s = .next ((s.period .replyReady (reply.bytes.take got)).raise .linkError 0) := by
  simp only [exec, execFetchCutShort, State.catchUp_of_settled settled, ready, waiting, short, if_true]

/-- A dropped message leaves the status byte of its period (R166). -/
theorem exec_messageDropped (shown : LinkStatus) (code : Byte) :
    exec (.messageDropped shown code) s = .next (s.period shown []) := by
  simp only [exec, execMessageDropped, State.catchUp_of_settled settled, ready, if_true]

/-- A message cut short in IDLE raises LINK_ERROR with its code (R168). -/
theorem exec_messageCutShort_of_idle (idle : s.link.state = .idle) (code : Byte) :
    exec (.messageCutShort code) s = .next ((s.period .idle []).raise .linkError code.toNat) := by
  simp only [exec, execMessageCutShort, State.catchUp_of_settled settled, State.openMessage_of_idle ready idle]

/-- A message that cannot be decoded in IDLE is answered REFUSED MALFORMED (R168). -/
theorem exec_malformed_of_idle (idle : s.link.state = .idle) (code : Byte) :
    exec (.malformed code) s = .next (s.answers (.refused .malformed)) :=
  next_takeMessage ((State.listens_iff s).mpr ⟨settled, ready, idle⟩) (State.reply_taking s _)

end

/-- An aborted period shifts out nothing (R165). -/
theorem exec_selectAborted_of_settled {s : State} (settled : s.settled = true) :
    exec .selectAborted s = .next s.ignoredPeriod := by
  simp only [exec, execSelectAborted, State.catchUp_of_settled settled]

/-- Settles O52: each period by its own lemma, in the words of the statement. -/
theorem periodsThatCarryNoRequest : Obligations.PeriodsThatCarryNoRequest := by
  refine fun s settled => ⟨exec_selectAborted_of_settled settled, fun ready =>
    ⟨fun reply extra got waiting => ⟨?whole, ?filler, ?short⟩, fun extra _ => ?idle, fun work extra _ => ?working,
      fun code => ⟨?dropped, ?droppedReply, fun idle => ⟨?cut, ?malformed⟩⟩⟩⟩
  case whole => exact exec_fetch_of_replyReady settled ready waiting extra
  case filler | working => exact exec_fetch_of_other settled ready (shown := .working) nofun extra
  case short => exact exec_fetchCutShort_of_lt settled ready waiting
  case idle => exact exec_fetch_of_other settled ready (shown := .idle) nofun extra
  case dropped | droppedReply => exact exec_messageDropped settled ready _ code
  case cut => exact exec_messageCutShort_of_idle settled ready idle code
  case malformed => exact exec_malformed_of_idle settled ready idle code

end Sys2Proof.Machine
end

section
/-!
PROOFS. The walks over the whole part: RESTART (R149, R174) and CLEAR TABLE (R25, R175).
-/
namespace Sys2Proof.Machine

-- One theorem after another: many at once would each hold a stack of their own.
set_option Elab.async false

/-! ### The emptied queue (R106, R111) -/

/-- The numbers of the requests in the queue: all go when it is emptied. -/
def State.queued (s : State) : List Nat := s.derive.queue.map fun q => q.number

theorem State.goneNumbers_all (s : State) : goneNumbers (fun _ => true) s.derive.queue = s.queued := by
  rw [goneNumbers, List.filter_true, State.queued]

/-- The emptied queue takes the references to its requests with it, in the words of the statements (R46, R106, R111). -/
theorem State.emptyQueue_eq (s : State) :
    s.emptyQueue =
      { s with
        channels := s.emptyQueue.channels
        derive :=
          { s.derive with
            queue := []
            blends := s.derive.blends.map (Blend.without s.queued)
            waitingBlends := s.derive.waitingBlends.filter (Blend.startsWithout s.queued) }
        arbiter := { s.arbiter with derive := none } } := by
  have empty : (s.derive.queue.filter fun _ => !true) = [] := List.filter_false _
  rw [← Blend.orphan_eq_without_gone, ← Blend.not_serves_eq_startsWithout_gone, ← State.goneNumbers_all, ← empty]
  rfl

/-- A channel after the emptied queue. -/
theorem State.channel_emptyQueue (s : State) (c : Chan) :
    s.emptyQueue.channel c = (s.channel c).loseDerivation s.queued := by
  rw [← State.goneNumbers_all]
  exact State.channel_leaveQueue s (fun _ => true) c

/-! ### The drops of RESTART on one slot (R149) -/

/-- A slot after the DROPs of the depths from `d` down to 1. -/
def Cell.droppedAll : Nat → Cell → Cell
  | 0, c => c
  | d + 1, c => (c.dropped (d + 1)).droppedAll d

/-- A slot after the drops of RESTART. -/
theorem State.cell_dropAll (d : Nat) (s : State) (i : Slot) : (s.dropAll d).cell i = (s.cell i).droppedAll d := by
  induction d generalizing s with
  | zero => rfl
  | succ d ih => rw [State.dropAll, ih, State.cell_dropTable, Cell.droppedAll]

section
variable {c : Cell} {e : Entry} {d : Nat}

/-- An EMPTY slot is passed over by every drop. -/
theorem Cell.droppedAll_of_empty (empty : c.entry = none) (d : Nat) : c.droppedAll d = c := by
  induction d with
  | zero => rfl
  | succ d ih => rw [Cell.droppedAll, Cell.dropped_of_empty empty, ih]

/-- Drops that leave a slot as it stands are passed over. -/
theorem Cell.droppedAll_of_stands {k : Nat} (low : k ≤ d) (stands : ∀ j, k < j → c.dropped j = c) :
    c.droppedAll d = c.droppedAll k := by
  induction d, low using Nat.le_induction with
  | base => rfl
  | succ d low ih => rw [Cell.droppedAll, stands (d + 1) (Nat.lt_succ_of_le low), ih]

/-- An entry stamped 0 without a shadow stands. -/
theorem Cell.droppedAll_of_zero (entry : c.entry = some e) (zero : e.stamp = 0) (bare : e.shadow = none) (d : Nat) :
    c.droppedAll d = c :=
  Cell.droppedAll_of_stands (Nat.zero_le d) fun j above =>
    Cell.dropped_of_other entry (by omega) (by simp [bare])

/-- An entry stamped within an open scope and without a shadow is retired by the DROP of that scope. -/
theorem Cell.droppedAll_of_bare (entry : c.entry = some e) (stamped : e.stamp ≠ 0) (within_depth : e.stamp ≤ d)
    (bare : e.shadow = none) : c.droppedAll d = c.retired := by
  obtain ⟨k, stamp⟩ := Nat.exists_eq_succ_of_ne_zero stamped
  rw [Cell.droppedAll_of_stands within_depth fun j above =>
      Cell.dropped_of_other entry (Nat.ne_of_lt above) (by simp [bare]),
    stamp, Cell.droppedAll, Cell.dropped_of_stamped entry stamp, Cell.droppedAll_of_empty rfl]

/-- An entry with a shadow above its stamp is restored from it by the DROP of the shadow's scope, and left to the lower
drops. -/
theorem Cell.droppedAll_of_shadowed {sh : Shadow} (entry : c.entry = some e) (shadow : e.shadow = some sh)
    (above : e.stamp < sh.depth) (within_depth : sh.depth ≤ d) :
    c.droppedAll d = (c.written (e.restored sh)).droppedAll (sh.depth - 1) := by
  obtain ⟨k, depth⟩ := Nat.exists_eq_succ_of_ne_zero (Nat.ne_zero_of_lt above)
  rw [Cell.droppedAll_of_stands within_depth fun j higher =>
      Cell.dropped_of_other entry (by omega) fun sh' shadow' => by
        obtain rfl : sh = sh' := Option.some.inj (shadow.symm.trans shadow')
        omega,
    depth, Cell.droppedAll, Cell.dropped_of_shadowed entry (by omega) shadow depth]
  rfl

/-- An entry stamped 0 with a shadow is restored from it (R145). -/
theorem Cell.droppedAll_of_zero_shadowed {sh : Shadow} (entry : c.entry = some e) (in_scope : e.scoped d)
    (zero : e.stamp = 0) (shadow : e.shadow = some sh) : c.droppedAll d = c.written (e.restored sh) := by
  obtain ⟨above, within_depth⟩ := in_scope.2 sh shadow
  rw [Cell.droppedAll_of_shadowed entry shadow above within_depth]
  exact Cell.droppedAll_of_zero (e := e.restored sh) rfl zero rfl _

/-- An entry stamped within an open scope is gone, after one increment for its shadow where it has one, and one for its
retirement (R17, R144, R145). -/
theorem Cell.droppedAll_of_stamped (entry : c.entry = some e) (in_scope : e.scoped d) (stamped : e.stamp ≠ 0) :
    c.droppedAll d =
      { generation :=
          if e.shadow = none then nextGeneration c.generation else nextGeneration (nextGeneration c.generation)
        entry := none } := by
  cases shadow : e.shadow with
  | none => exact Cell.droppedAll_of_bare entry stamped in_scope.1 shadow
  | some sh =>
    obtain ⟨above, within_depth⟩ := in_scope.2 sh shadow
    rw [Cell.droppedAll_of_shadowed entry shadow above within_depth]
    exact Cell.droppedAll_of_bare (e := e.restored sh) rfl stamped (Nat.le_sub_one_of_lt above) rfl

end

/-! ### The RESTART walk -/

theorem Channel.restarted_loseWinner (gone : Slot → Bool) (ch : Channel) :
    (ch.loseWinner gone).restarted = ch.restarted := by
  rw [Channel.loseWinner_eq]
  rfl

theorem Channel.restarted_loseDerivation (gone : List Nat) (ch : Channel) :
    (ch.loseDerivation gone).restarted = ch.restarted := by
  rw [Channel.loseDerivation_eq]
  rfl

/-- The drops take from a channel nothing that RESTART keeps. -/
theorem State.restarted_channel_dropAll (d : Nat) (s : State) (c : Chan) :
    ((s.dropAll d).channel c).restarted = (s.channel c).restarted := by
  induction d generalizing s with
  | zero => rfl
  | succ d ih => rw [State.dropAll, ih, State.channel_dropTable, Channel.restarted_loseWinner]

/-- A channel after RESTART, from the channel before it (R88). -/
theorem State.channel_restartAll_eq (s : State) (c : Chan) : s.restartAll.channel c = (s.channel c).restarted := by
  rw [State.channel_restartAll, Channel.restarted_loseDerivation, State.restarted_channel_dropAll]

/-- What RESTART does to every block but the table and the channels (R174), in the words of the statements. -/
theorem State.restartAll_eq (s : State) :
    s.restartAll =
      { s with
        table := s.restartAll.table
        arbiter := { s.arbiter with frame := none, derive := none, aging := none }
        matching := s.matching.restarted
        path := .cleared
        channels := s.restartAll.channels
        port := { s.port with queue := [] }
        derive :=
          { s.derive with
            queue := []
            blends := s.derive.blends.map (Blend.without s.queued)
            waitingBlends := s.derive.waitingBlends.filter (Blend.startsWithout s.queued) }
        aging := s.aging.restarted
        depth := 0
        notices := s.notices.restarted } := by
  obtain ⟨table, channels, dropped⟩ :
      ∃ table channels, s.dropAll s.depth = { s with table := table, channels := channels } :=
    ⟨_, _, State.dropAll_eq s.depth s⟩
  unfold State.restartAll
  rw [dropped, State.emptyQueue_eq]
  rfl

/-- A RESTART that SERVICE is granted is performed (R174). -/
theorem exec_restartWalk_of_granted {s : State} (granted : s.grantsService .restart) :
    exec .restartWalk s = .next (s.grantService.restartAll.done .nothing) := by
  obtain ⟨settled, grant⟩ := granted
  simp only [exec, execRestartWalk, State.catchUp_of_settled settled, grant]

/-- A slot after RESTART: after the drops of the open scopes (R149). -/
theorem State.cell_restartAll (s : State) (i : Slot) : s.restartAll.cell i = (s.cell i).droppedAll s.depth :=
  State.cell_dropAll s.depth s i

/-- With no scope open RESTART leaves the table as it stands (R149). -/
theorem State.table_restartAll_of_depth_zero {s : State} (none_open : s.depth = 0) : s.restartAll.table = s.table := by
  have dropped : s.restartAll.table = (s.dropAll s.depth).table := rfl
  rw [dropped, none_open]
  rfl

/-! ### The CLEAR TABLE walk -/

/-- The winners that stand after a clearing are those not among the slots that go (R79). -/
theorem Channel.winner_loseWinner_eq_some_iff (gone : Slot → Bool) (ch : Channel) (i : Slot) :
    (ch.loseWinner gone).winner = some i ↔ ch.winner = some i ∧ gone i = false := by
  refine ⟨Channel.winner_loseWinner_eq_some, fun ⟨won, stays⟩ => ?_⟩
  rw [Channel.winner_loseWinner_of_some won, stays]
  rfl

/-- What CLEAR TABLE does to every block but the table and the channels (R175), in the words of the statements. -/
theorem State.clearAll_eq (s : State) :
    s.clearAll =
      { s with
        table := s.clearAll.table
        arbiter := { s.arbiter with derive := none }
        matching := { s.matching with service := s.matching.service.forget }
        channels := s.clearAll.channels
        derive :=
          { s.derive with
            queue := []
            blends := s.derive.blends.map (Blend.without s.queued)
            waitingBlends := s.derive.waitingBlends.filter (Blend.startsWithout s.queued) } } := by
  unfold State.clearAll
  rw [State.emptyQueue_eq]
  rfl

/-- A channel after CLEAR TABLE (R79, R106). -/
theorem State.channel_clearAll (s : State) (c : Chan) :
    s.clearAll.channel c =
      ((s.channel c).loseWinner fun i => !(s.cell i).isEmpty).loseDerivation s.queued := by
  have emptied :=
    ((s.mapCells fun _ c => c.wiped).clearWinners fun i => !(s.cell i).isEmpty).channel_emptyQueue c
  rw [State.channel_clearWinners] at emptied
  exact emptied

/-- A slot as CLEAR TABLE leaves it (R25), in the words of the statements. -/
theorem Cell.wiped_eq (c : Cell) :
    c.wiped = if c.entry = none then c else { generation := nextGeneration c.generation, entry := none } := by
  unfold Cell.wiped
  exact if_congr (Cell.isEmpty_iff c) rfl rfl

/-- A CLEAR TABLE that SERVICE is granted is performed, with the count of the part before it (R175). -/
theorem exec_clearTableWalk_of_granted {s : State} (granted : s.grantsService .clearTable) :
    exec .clearTableWalk s =
      .next (s.grantService.clearAll.done (.cleared (s.slotsWhere fun c => !c.isEmpty).length)) := by
  obtain ⟨settled, grant⟩ := granted
  simp only [exec, execClearTableWalk, State.catchUp_of_settled settled, grant, State.countP_table]

/-- Settles O51: every block by `State.restartAll_eq` and `State.clearAll_eq`, the slots of RESTART by their stamps and
shadows. -/
theorem restartAndClearTableWalks : Obligations.RestartAndClearTableWalks := by
  refine ⟨fun s granted => ?restart, fun s granted => ?clear⟩
  case restart =>
    have slot (i : Slot) : (s.grantService.restartAll.done .nothing).cell i = (s.cell i).droppedAll s.depth :=
      s.grantService.cell_restartAll i
    refine ⟨_, s.queued, exec_restartWalk_of_granted granted, rfl, ?rest,
      fun c => s.grantService.channel_restartAll_eq c,
      State.table_restartAll_of_depth_zero (s := s.grantService),
      fun i empty => (slot i).trans (Cell.droppedAll_of_empty empty _), fun holds i e entry => ?slots⟩
    case rest =>
      rw [State.restartAll_eq]
      rfl
    case slots =>
      obtain ⟨-, -, -, scopes, -⟩ := holds
      have in_scope : e.scoped s.depth := scopes i e entry
      rw [slot]
      exact ⟨fun zero bare => Cell.droppedAll_of_zero entry zero bare _,
        fun sh zero shadow => Cell.droppedAll_of_zero_shadowed entry in_scope zero shadow,
        Cell.droppedAll_of_stamped entry in_scope⟩
  case clear =>
    refine ⟨_, s.slotsWhere fun c => !c.isEmpty, s.queued, exec_clearTableWalk_of_granted granted, rfl, ?rest,
      fun i => (s.grantService.cell_clearAll i).trans (Cell.wiped_eq _), fun c => ?channel, s.nodup_slotsWhere _,
      fun i => ?full⟩
    case rest =>
      rw [State.clearAll_eq]
      rfl
    case channel =>
      have after : (s.grantService.clearAll.done (.cleared (s.slotsWhere fun c => !c.isEmpty).length)).channel c = _ :=
        s.grantService.channel_clearAll c
      refine ⟨?frame, fun i => ?winner, fun n => ?pending⟩
      case frame => rw [after, Channel.loseDerivation_eq, Channel.loseWinner_eq]; rfl
      case winner =>
        rw [after, Channel.winner_loseDerivation, Channel.winner_loseWinner_eq_some_iff, Bool.not_eq_false',
          Cell.isEmpty_iff]
        rfl
      case pending =>
        rw [after, Channel.pendingDerivation_loseDerivation_eq_some_iff, Channel.loseWinner_eq]
        rfl
    case full => rw [State.mem_slotsWhere, Bool.not_eq_true', Cell.isEmpty_eq_false_iff]

end Sys2Proof.Machine
end

section
/-!
PROOFS. The fields of a word read out of its value, and the words of a grade record (R182).
-/
namespace Sys2Proof.Machine

-- One theorem after another: many at once would each hold a stack of their own.
set_option Elab.async false

/-! ### Fields of a word -/

/-- The value of a field of a word: what stands above its low end, up to its width. -/
theorem toNat_field {n : Nat} (w : BitVec n) (low width : Nat) :
    (w.extractLsb' low width).toNat = w.toNat / 2 ^ low % 2 ^ width := by
  rw [BitVec.extractLsb'_toNat, Nat.shiftRight_eq_div_pow]

/-- The value of two fields put side by side. -/
theorem toNat_append_eq {v w : Nat} (high : BitVec v) (low : BitVec w) :
    (high ++ low).toNat = high.toNat * 2 ^ w + low.toNat := by
  rw [BitVec.toNat_append, Nat.shiftLeft_eq, ← Nat.mul_comm, ← Nat.two_pow_add_eq_or_of_lt low.isLt]

/-- A field is what its bits of the word's value are. -/
theorem field_eq {n low width : Nat} {w : BitVec n} {x : BitVec width} (h : w.toNat / 2 ^ low % 2 ^ width = x.toNat) :
    w.extractLsb' low width = x :=
  BitVec.eq_of_toNat_eq ((toNat_field w low width).trans h)

/-- A flag is what its bit of the word's value is. -/
theorem getLsbD_flag {w : Word} {i : Nat} {b : Bool} (h : w.toNat / 2 ^ i % 2 = b.toNat) : w.getLsbD i = b := by
  rw [← BitVec.testBit_toNat, Nat.testBit_eq_decide_div_mod_eq, h]
  cases b <;> rfl

/-! ### The words of a record -/

/-- The fields of a header fit their bits, but for the frame number. -/
theorem GradeRecord.fields_lt (r : GradeRecord) :
    r.heldOver.toNat < 2 ∧ r.learning.toNat < 2 ∧ r.locked.toNat < 2 ∧ r.gliding.toNat < 2 ∧
      r.winner.isSome.toNat < 2 ∧ r.winner.elim 0 Fin.val < 512 ∧ recordOutcome r.outcome < 4 := by
  refine ⟨Bool.toNat_lt _, Bool.toNat_lt _, Bool.toNat_lt _, Bool.toNat_lt _, Bool.toNat_lt _, ?slot, ?outcome⟩
  case slot => cases r.winner with
    | none => decide
    | some i => exact i.isLt
  case outcome => cases r.outcome <;> decide

/-- The value of a record's header (R182). -/
theorem GradeRecord.toNat_header {r : GradeRecord} (number : r.number < 4294967296) :
    r.header.toNat = 2 ^ 60 + r.heldOver.toNat * 2 ^ 49 + r.learning.toNat * 2 ^ 48 + r.locked.toNat * 2 ^ 47 +
      r.gliding.toNat * 2 ^ 46 + r.winner.elim 0 Fin.val * 2 ^ 37 + r.winner.isSome.toNat * 2 ^ 36 +
      recordOutcome r.outcome * 2 ^ 34 + r.channel.val * 2 ^ 32 + r.number := by
  obtain ⟨heldOver, learning, locked, gliding, present, slot, outcome⟩ := r.fields_lt
  simp only [GradeRecord.header, BitVec.toNat_ofNat]
  generalize r.winner = winner at *
  cases winner <;> simp only [Option.elim, Option.isSome, Bool.toNat_true, Bool.toNat_false] at * <;> omega

/-- The value of a value word: four fields of 16 bits (R182). -/
theorem toNat_valueWord (a b c d : Int) :
    (valueWord a b c d).toNat = field16 a * 2 ^ 48 + field16 b * 2 ^ 32 + field16 c * 2 ^ 16 + field16 d := by
  unfold valueWord field16
  rw [BitVec.toNat_ofNat]
  omega

/-- Each field of a value word is its number in 16 bits, two's complement (R182). -/
theorem valueWord_fields (a b c d : Int) :
    (valueWord a b c d).extractLsb' 48 16 = BitVec.ofInt 16 a ∧
      (valueWord a b c d).extractLsb' 32 16 = BitVec.ofInt 16 b ∧
      (valueWord a b c d).extractLsb' 16 16 = BitVec.ofInt 16 c ∧
      (valueWord a b c d).extractLsb' 0 16 = BitVec.ofInt 16 d := by
  have value := toNat_valueWord a b c d
  have fits (x : Int) : field16 x < 65536 := by unfold field16; omega
  have fits_a := fits a
  have fits_b := fits b
  have fits_c := fits c
  have fits_d := fits d
  have in_bits {x : Int} {low : Nat} (h : (valueWord a b c d).toNat / 2 ^ low % 2 ^ 16 = field16 x) :
      (valueWord a b c d).extractLsb' low 16 = BitVec.ofInt 16 x :=
    field_eq (h.trans (BitVec.toNat_ofInt (n := 16) x).symm)
  exact ⟨in_bits (by omega), in_bits (by omega), in_bits (by omega), in_bits (by omega)⟩

/-- A coefficient in its range is what its 16 bits say in two's complement. -/
theorem toInt_coefficient {x : Int} (h : coefficientHolds x) : (BitVec.ofInt 16 x).toInt = x := by
  obtain ⟨low, high⟩ := h
  exact BitVec.toInt_ofInt_eq_self (by decide) (by omega) (by omega)

/-- A gain in its range is what its 16 bits say unsigned. -/
theorem toNat_gain {x : Int} (h : 0 ≤ x ∧ x ≤ 16383) : ((BitVec.ofInt 16 x).toNat : Int) = x := by
  rw [BitVec.toNat_ofInt]
  omega

/-- Each field of a header stands in its bits, and bits 59..50 are 0 (R182). -/
theorem GradeRecord.header_fields {r : GradeRecord} (number : r.number < 4294967296) :
    ((r.header.extractLsb' 60 4).toNat = 1 ∧ (r.header.extractLsb' 50 10).toNat = 0) ∧
      (r.header.getLsbD 49 = r.heldOver ∧ r.header.getLsbD 48 = r.learning ∧ r.header.getLsbD 47 = r.locked ∧
        r.header.getLsbD 46 = r.gliding) ∧
      (r.header.getLsbD 36 = r.winner.isSome ∧ (r.header.extractLsb' 37 9).toNat = r.winner.elim 0 Fin.val) ∧
      (r.header.extractLsb' 34 2).toNat = recordOutcome r.outcome ∧
      (r.header.extractLsb' 32 2).toNat = r.channel.val ∧ (r.header.extractLsb' 0 32).toNat = r.number := by
  have value := toNat_header number
  have bounds := r.fields_lt
  simp only [toNat_field]
  exact ⟨⟨by omega, by omega⟩,
    ⟨getLsbD_flag (by omega), getLsbD_flag (by omega), getLsbD_flag (by omega), getLsbD_flag (by omega)⟩,
    ⟨getLsbD_flag (by omega), by omega⟩, by omega, by omega, by omega⟩

/-- Settles O24: the header by `GradeRecord.header_fields`, the value words by `valueWord_fields` and the ranges of a
grade. -/
theorem recordWordsCarryTheirFields : Obligations.RecordWordsCarryTheirFields := by
  intro r number grade
  obtain ⟨gR, gG, gB, m11, m12, m13, m21, m22, m23, m31, m32, m33⟩ := grade
  refine ⟨_, _, _, _, rfl, ?header, ?first, ?second, ?third⟩
  case first =>
    obtain ⟨in_m11, in_gB, in_gG, in_gR⟩ := valueWord_fields r.grade.m11 r.grade.gB r.grade.gG r.grade.gR
    rw [in_m11, in_gB, in_gG, in_gR]
    exact ⟨toInt_coefficient m11, toNat_gain gB, toNat_gain gG, toNat_gain gR⟩
  case second =>
    obtain ⟨in_m22, in_m21, in_m13, in_m12⟩ := valueWord_fields r.grade.m22 r.grade.m21 r.grade.m13 r.grade.m12
    rw [in_m22, in_m21, in_m13, in_m12]
    exact ⟨toInt_coefficient m22, toInt_coefficient m21, toInt_coefficient m13, toInt_coefficient m12⟩
  case third =>
    obtain ⟨in_m33, in_m32, in_m31, in_m23⟩ := valueWord_fields r.grade.m33 r.grade.m32 r.grade.m31 r.grade.m23
    rw [in_m33, in_m32, in_m31, in_m23]
    exact ⟨toInt_coefficient m33, toInt_coefficient m32, toInt_coefficient m31, toInt_coefficient m23⟩
  case header =>
    obtain ⟨⟨kind, zeros⟩, ⟨heldOver, learning, locked, gliding⟩, ⟨present, slot⟩, outcome, channel,
      number⟩ :=
      GradeRecord.header_fields number
    refine ⟨kind, zeros, heldOver, learning, locked, gliding, fun absent => ?absent, fun i winner => ?present,
      ?outcome, channel, number⟩
    case absent => rw [present, slot, absent]; exact ⟨rfl, rfl⟩
    case present => rw [present, slot, winner]; exact ⟨rfl, rfl⟩
    case outcome => rw [outcome]; cases r.outcome <;> rfl

end Sys2Proof.Machine
end

section
/-!
PROOFS. The message of every request and every reading word decode to what they encode (R177 to R179, R181): the fields
with a selector, then the messages by their codes, then the words by their values.
-/
namespace Sys2Proof

/-! ### Fields with a selector -/

/-- The bits of a selector are the marks it was made from, and no others. -/
theorem selectorOf_testBit (l : List Bool) (i : Nat) : (selectorOf l).testBit i = l.getD i false := by
  induction l generalizing i with
  | nil => simp [selectorOf]
  | cons b l ih =>
    cases i with
    | zero => exact selectorOf_testBit_zero b l
    | succ i => rw [selectorOf_testBit_succ, ih, List.getD_cons_succ]

@[simp] theorem Parsed.got_andThen {α β : Type} (a : α) (l : List Byte) (f : α → List Byte → Parsed β) :
    (Parsed.got a l).andThen f = f a l := rfl

@[simp] theorem Parsed.map_got {α β : Type} (f : α → β) (a : α) (l : List Byte) :
    (Parsed.got a l).map f = .got (f a) l := rfl

/-- A part of a selector reads back from its bytes, when its mark stands in its place among the selector's. -/
theorem parsePart_selectorOf {α : Type} {p : List Byte → Parsed α} {f : α → List Byte} {ok : α → Bool}
    {marks : List Bool} {bit : Nat} {x : Option α}
    (reads : ∀ {a}, ok a = true → ∀ more, p (f a ++ more) = .got a more)
    (mark : marks.getD bit false = x.isSome) (wf : optionOk ok x = true) (more : List Byte) :
    parsePart (selectorOf marks) bit p (partBytes f x ++ more) = .got x more :=
  parsePart_bytes ((selectorOf_testBit marks bit).trans mark)
    (fun a ha => reads (by rw [ha] at wf; exact wf)) more

/-- A carried number reads back from its bytes. -/
theorem parsePart_numberBytes {marks : List Bool} {bit : Nat} {x : Option Nat}
    (mark : marks.getD bit false = x.isSome) (wf : optionOk numberOk x = true) (more : List Byte) :
    parsePart (selectorOf marks) bit parseNumber (partBytes numberBytes x ++ more) = .got x more :=
  parsePart_selectorOf parseNumber_numberBytes mark wf more

/-- A body reads back from its bytes, when its marks stand in the selector from the body's first bit on. -/
theorem parseBody_bytes {b : BodyParts} {marks : List Bool} {bit : Nat} (carried : marks.drop bit = b.carried)
    (wf : b.wf = true) (more : List Byte) : parseBody (selectorOf marks) bit (b.bytes ++ more) = .got b more := by
  simp only [BodyParts.wf, Bool.and_eq_true] at wf
  obtain ⟨⟨⟨gains, matrix⟩, reference⟩, limits⟩ := wf
  have mark (i : Nat) : marks.getD (bit + i) false = b.carried.getD i false := by
    rw [← carried, List.getD_eq_getElem?_getD, List.getD_eq_getElem?_getD, List.getElem?_drop]
  simp only [parseBody, BodyParts.bytes, List.append_assoc, Parsed.got_andThen, Parsed.map_got,
    parsePart_selectorOf (bit := bit) parseGains_bytes (mark 0) gains,
    parsePart_selectorOf (bit := bit + 1) parseMatrix_bytes (mark 1) matrix,
    parsePart_selectorOf (bit := bit + 2) parseReference_bytes (mark 2) reference,
    parsePart_selectorOf (bit := bit + 3) parseLimits_bytes (mark 3) limits]

/-- The fields of a PLACE read back from their bytes. -/
theorem parsePlace_bytes {q : PlaceRequest} (wf : q.wf = true) (more : List Byte) :
    parsePlace (q.bytes ++ more) = .got q more := by
  simp only [PlaceRequest.wf, Bool.and_eq_true] at wf
  obtain ⟨⟨⟨⟨⟨designator, flags⟩, state⟩, key⟩, cls⟩, body⟩ := wf
  have selector := parseSelector_bytes (k := 5) (l := q.cls.isSome :: q.body.carried) rfl (by decide)
  simp only [parsePlace, PlaceRequest.bytes, List.append_assoc, Parsed.got_andThen, Parsed.map_got, selector,
    parseDesignator_bytes designator, parseNumber_numberBytes flags, parseNumber_numberBytes state, parseKey_bytes key,
    parsePart_numberBytes (marks := q.cls.isSome :: q.body.carried) (bit := 0) rfl cls,
    parseBody_bytes (marks := q.cls.isSome :: q.body.carried) (bit := 1) rfl body]

/-- The fields of an AMEND read back from their bytes. -/
theorem parseAmend_bytes {q : AmendRequest} (wf : q.wf = true) (more : List Byte) :
    parseAmend (q.bytes ++ more) = .got q more := by
  simp only [AmendRequest.wf, Bool.and_eq_true] at wf
  obtain ⟨⟨⟨⟨designator, expected⟩, key⟩, cls⟩, body⟩ := wf
  unfold AmendRequest.bytes
  generalize hm : q.expected.isSome :: q.key.isSome :: q.cls.isSome :: q.body.carried = marks
  have selector := parseSelector_bytes (k := 7) (l := marks) (by rw [← hm]; rfl) (by decide)
  have first := parsePart_numberBytes (marks := marks) (bit := 0) (by rw [← hm]; rfl) expected
  have second := parsePart_selectorOf (marks := marks) (bit := 1) parseKey_bytes (by rw [← hm]; rfl) key
  have third := parsePart_numberBytes (marks := marks) (bit := 2) (by rw [← hm]; rfl) cls
  have others := parseBody_bytes (marks := marks) (bit := 3) (by rw [← hm]; rfl) body
  simp only [parseAmend, List.append_assoc, Parsed.got_andThen, Parsed.map_got, parseDesignator_bytes designator,
    selector, first, second, third, others]

/-- The fields of a profile read back from their bytes. -/
theorem parseProfileFields_bytes {f : ProfileFields} (wf : f.wf = true) (more : List Byte) :
    parseProfileFields (f.bytes ++ more) = .got f more := by
  simp only [ProfileFields.wf, Bool.and_eq_true] at wf
  simp [parseProfileFields, ProfileFields.bytes, numberParts, parseSelector_bytes, parsePart_numberBytes, wf]

/-- The fields of a channel read back from their bytes. -/
theorem parseChannelFields_bytes {f : ChannelFields} (wf : f.wf = true) (more : List Byte) :
    parseChannelFields (f.bytes ++ more) = .got f more := by
  simp only [ChannelFields.wf, Bool.and_eq_true] at wf
  simp [parseChannelFields, ChannelFields.bytes, numberParts, parseSelector_bytes, parsePart_numberBytes, wf]

/-- The fields of an aging class read back from their bytes. -/
theorem parseClassFields_bytes {f : ClassFields} (wf : f.wf = true) (more : List Byte) :
    parseClassFields (f.bytes ++ more) = .got f more := by
  simp only [ClassFields.wf, Bool.and_eq_true] at wf
  simp [parseClassFields, ClassFields.bytes, numberParts, parseSelector_bytes, parsePart_numberBytes, wf]

/-- The fields of a SET LEARNING read back from their bytes. -/
theorem parseLearning_bytes {reserve eviction : Option Nat} (hr : optionOk numberOk reserve = true)
    (he : optionOk numberOk eviction = true) (more : List Byte) :
    parseLearning (numberParts [reserve, eviction] ++ more) = .got (.setLearning reserve eviction) more := by
  simp [parseLearning, numberParts, parseSelector_bytes, parsePart_numberBytes, hr, he]

end Sys2Proof

namespace Sys2Proof.Machine

/-! ### Messages -/

/-- The message of every well-formed request is a code other than 00h, and fields that read back whatever follows. -/
theorem parseMessage_encodeMessage {i : Instr} (wf : i.wf = true) (request : isRequest i = true) (more : List Byte) :
    ∃ code fields,
      encodeMessage i = code :: fields ∧ code ≠ 0 ∧ parseMessage code (fields ++ more) = .got i more := by
  cases i with
  | place q => exact ⟨_, _, rfl, by decide, by simp [parseMessage, parsePlace_bytes (q := q) wf]⟩
  | amend q => exact ⟨_, _, rfl, by decide, by simp [parseMessage, parseAmend_bytes (q := q) wf]⟩
  | retire d => exact ⟨_, _, rfl, by decide, by simp [parseMessage, parseDesignator_bytes (d := d) wf]⟩
  | setState d state =>
    obtain ⟨designator, number⟩ := Bool.and_eq_true_iff.mp wf
    exact ⟨_, _, rfl, by decide,
      by simp [parseMessage, parseDesignator_bytes designator, parseNumber_numberBytes number]⟩
  | pin d => exact ⟨_, _, rfl, by decide, by simp [parseMessage, parseDesignator_bytes (d := d) wf]⟩
  | unpin d => exact ⟨_, _, rfl, by decide, by simp [parseMessage, parseDesignator_bytes (d := d) wf]⟩
  | clearCounts d => exact ⟨_, _, rfl, by decide, by simp [parseMessage, parseDesignator_bytes (d := d) wf]⟩
  | readEntry d => exact ⟨_, _, rfl, by decide, by simp [parseMessage, parseDesignator_bytes (d := d) wf]⟩
  | seek key => exact ⟨_, _, rfl, by decide, by simp [parseMessage, parseKey_bytes (k := key) wf]⟩
  | seekNext => exact ⟨_, _, rfl, by decide, rfl⟩
  | setCursor slot step =>
    obtain ⟨slotOk, stepOk⟩ := Bool.and_eq_true_iff.mp wf
    exact ⟨_, _, rfl, by decide,
      by simp [parseMessage, parseNumber_numberBytes slotOk, parseNumber_numberBytes stepOk]⟩
  | setProfile profile f =>
    obtain ⟨number, fields⟩ := Bool.and_eq_true_iff.mp wf
    exact ⟨_, _, rfl, by decide,
      by simp [parseMessage, parseNumber_numberBytes number, parseProfileFields_bytes fields]⟩
  | setServiceMatch profile filter =>
    obtain ⟨profileOk, filterOk⟩ := Bool.and_eq_true_iff.mp wf
    exact ⟨_, _, rfl, by decide,
      by simp [parseMessage, parseNumber_numberBytes profileOk, parseNumber_numberBytes filterOk]⟩
  | stageProfile profile =>
    exact ⟨_, _, rfl, by decide, by simp [parseMessage, parseNumber_numberBytes (n := profile) wf]⟩
  | setChannel channel f =>
    obtain ⟨number, fields⟩ := Bool.and_eq_true_iff.mp wf
    exact ⟨_, _, rfl, by decide,
      by simp [parseMessage, parseNumber_numberBytes number, parseChannelFields_bytes fields]⟩
  | readChannel channel =>
    exact ⟨_, _, rfl, by decide, by simp [parseMessage, parseNumber_numberBytes (n := channel) wf]⟩
  | setLearning reserve eviction =>
    obtain ⟨reserveOk, evictionOk⟩ := Bool.and_eq_true_iff.mp wf
    exact ⟨_, _, rfl, by decide, by simp [parseMessage, parseLearning_bytes reserveOk evictionOk]⟩
  | readDerivations => exact ⟨_, _, rfl, by decide, rfl⟩
  | setClass cls f =>
    obtain ⟨number, fields⟩ := Bool.and_eq_true_iff.mp wf
    exact ⟨_, _, rfl, by decide,
      by simp [parseMessage, parseNumber_numberBytes number, parseClassFields_bytes fields]⟩
  | openScope => exact ⟨_, _, rfl, by decide, rfl⟩
  | closeScope mode =>
    exact ⟨_, _, rfl, by decide, by simp [parseMessage, parseNumber_numberBytes (n := mode) wf]⟩
  | readStatus => exact ⟨_, _, rfl, by decide, rfl⟩
  | readCauses => exact ⟨_, _, rfl, by decide, rfl⟩
  | clearCauses causes =>
    exact ⟨_, _, rfl, by decide, by simp [parseMessage, parseNumber_numberBytes (n := causes) wf]⟩
  | setNoticeMask causes =>
    exact ⟨_, _, rfl, by decide, by simp [parseMessage, parseNumber_numberBytes (n := causes) wf]⟩
  | restart => exact ⟨_, _, rfl, by decide, rfl⟩
  | clearTable => exact ⟨_, _, rfl, by decide, rfl⟩
  | _ => nomatch request

/-! ### Reading words -/

/-- The value of an open word (R181). -/
theorem toNat_openWord (number : BitVec 32) (tag : BitVec 4) :
    (encodeReadingWord (.openWord number tag)).toNat = 2 ^ 60 + tag.toNat * 2 ^ 32 + number.toNat := by
  refine (toNat_append_eq (1#4 ++ 0#24 ++ tag) number).trans ?_
  rw [toNat_append_eq, toNat_append_eq, BitVec.toNat_ofNat, BitVec.toNat_ofNat]
  omega

/-- The value of a zone word (R181). -/
theorem toNat_zoneWord (zone : Zone) (u v : BitVec 12) (level : BitVec 7) (confidence : BitVec 8) :
    (encodeReadingWord (.zoneWord zone u v level confidence)).toNat =
      2 * 2 ^ 60 + zone.val * 2 ^ 39 + confidence.toNat * 2 ^ 31 + level.toNat * 2 ^ 24 + v.toNat * 2 ^ 12 +
        u.toNat := by
  refine (toNat_append_eq (2#4 ++ 0#17 ++ BitVec.ofNat 4 zone.val ++ confidence ++ level ++ v) u).trans ?_
  rw [toNat_append_eq, toNat_append_eq, toNat_append_eq, toNat_append_eq, toNat_append_eq, BitVec.toNat_ofNat,
    BitVec.toNat_ofNat, BitVec.toNat_ofNat]
  omega

/-- The value of an anchor word (R181). -/
theorem toNat_anchorWord (slot : Slot) (channel : Chan) (r g b : BitVec 16) :
    (encodeReadingWord (.anchorWord slot channel r g b)).toNat =
      3 * 2 ^ 60 + slot.val * 2 ^ 50 + channel.val * 2 ^ 48 + b.toNat * 2 ^ 32 + g.toNat * 2 ^ 16 + r.toNat := by
  refine (toNat_append_eq (3#4 ++ 0#1 ++ BitVec.ofNat 9 slot.val ++ BitVec.ofNat 2 channel.val ++ b ++ g) r).trans ?_
  rw [toNat_append_eq, toNat_append_eq, toNat_append_eq, toNat_append_eq, toNat_append_eq, BitVec.toNat_ofNat,
    BitVec.toNat_ofNat, BitVec.toNat_ofNat, BitVec.toNat_ofNat]
  omega

/-- The value of a word of an unknown kind (R181). -/
theorem toNat_unknownKindWord (kind : BitVec 4) :
    (encodeReadingWord (.unknownKindWord kind)).toNat = kind.toNat * 2 ^ 60 := by
  refine (toNat_append_eq kind 0#60).trans ?_
  rw [BitVec.toNat_ofNat]
  omega

/-- An open word decodes to its command (R181). -/
theorem decode_openWord (number : BitVec 32) (tag : BitVec 4) :
    decodeReadingWord (encodeReadingWord (.openWord number tag)) = .openWord number tag := by
  have value := toNat_openWord number tag
  generalize encodeReadingWord (.openWord number tag) = w at value
  have kind : (w.extractLsb' 60 4).toNat = 1 := by rw [toNat_field]; omega
  have number_eq : w.extractLsb' 0 32 = number := field_eq (by omega)
  have tag_eq : w.extractLsb' 32 4 = tag := field_eq (by omega)
  simp only [decodeReadingWord, kind, number_eq, tag_eq]

/-- A zone word decodes to its command (R181). -/
theorem decode_zoneWord (zone : Zone) (u v : BitVec 12) (level : BitVec 7) (confidence : BitVec 8) :
    decodeReadingWord (encodeReadingWord (.zoneWord zone u v level confidence)) =
      .zoneWord zone u v level confidence := by
  have value := toNat_zoneWord zone u v level confidence
  generalize encodeReadingWord (.zoneWord zone u v level confidence) = w at value
  have kind : (w.extractLsb' 60 4).toNat = 2 := by rw [toNat_field]; omega
  have zone_eq : (w.extractLsb' 39 4).toNat = zone.val := by rw [toNat_field]; omega
  have u_eq : w.extractLsb' 0 12 = u := field_eq (by omega)
  have v_eq : w.extractLsb' 12 12 = v := field_eq (by omega)
  have level_eq : w.extractLsb' 24 7 = level := field_eq (by omega)
  have confidence_eq : w.extractLsb' 31 8 = confidence := field_eq (by omega)
  simp only [decodeReadingWord, kind, zone_eq, u_eq, v_eq, level_eq, confidence_eq, Fin.ofNat_val_eq_self]

/-- An anchor word decodes to its command (R181). -/
theorem decode_anchorWord (slot : Slot) (channel : Chan) (r g b : BitVec 16) :
    decodeReadingWord (encodeReadingWord (.anchorWord slot channel r g b)) = .anchorWord slot channel r g b := by
  have value := toNat_anchorWord slot channel r g b
  generalize encodeReadingWord (.anchorWord slot channel r g b) = w at value
  have kind : (w.extractLsb' 60 4).toNat = 3 := by rw [toNat_field]; omega
  have slot_eq : (w.extractLsb' 50 9).toNat = slot.val := by rw [toNat_field]; omega
  have channel_eq : (w.extractLsb' 48 2).toNat = channel.val := by rw [toNat_field]; omega
  have r_eq : w.extractLsb' 0 16 = r := field_eq (by omega)
  have g_eq : w.extractLsb' 16 16 = g := field_eq (by omega)
  have b_eq : w.extractLsb' 32 16 = b := field_eq (by omega)
  simp only [decodeReadingWord, kind, slot_eq, channel_eq, r_eq, g_eq, b_eq, Fin.ofNat_val_eq_self]

/-- A word of an unknown kind decodes to that kind: its four bits name none of the known ones (R181). -/
theorem decode_unknownKindWord {kind : BitVec 4} (unknown : (Instr.unknownKindWord kind).wf = true) :
    decodeReadingWord (encodeReadingWord (.unknownKindWord kind)) = .unknownKindWord kind := by
  have value := toNat_unknownKindWord kind
  generalize encodeReadingWord (.unknownKindWord kind) = w at value
  have kind_eq : w.extractLsb' 60 4 = kind := field_eq (by omega)
  have other (k : BitVec 4) (known : k ∈ knownKinds) : kind.toNat ≠ k.toNat := fun same => by
    rw [BitVec.eq_of_toNat_eq same] at unknown
    simp [Instr.wf, known] at unknown
  unfold decodeReadingWord
  rw [kind_eq]
  split
  case h_1 open_kind => exact absurd open_kind (other 1 (by decide))
  case h_2 zone_kind => exact absurd zone_kind (other 2 (by decide))
  case h_3 anchor_kind => exact absurd anchor_kind (other 3 (by decide))
  case h_4 close_kind => exact absurd close_kind (other 4 (by decide))
  case h_5 => rfl

/-- The word of every well-formed reading word command decodes to it. -/
theorem decodeReadingWord_encodeReadingWord {i : Instr} (wf : i.wf = true) (reading : isReadingWord i = true) :
    decodeReadingWord (encodeReadingWord i) = i := by
  cases i with
  | openWord number tag => exact decode_openWord number tag
  | zoneWord zone u v level confidence => exact decode_zoneWord zone u v level confidence
  | anchorWord slot channel r g b => exact decode_anchorWord slot channel r g b
  | closeWord => rfl
  | unknownKindWord kind => exact decode_unknownKindWord wf
  | _ => nomatch reading

/-- Settles O54: the messages by their codes, the reading words by their kinds. -/
theorem messagesAndWordsDecodeToThemselves : Obligations.MessagesAndWordsDecodeToThemselves :=
  ⟨fun _ more wf request => parseMessage_encodeMessage wf request more,
    fun _ wf reading => decodeReadingWord_encodeReadingWord wf reading⟩

end Sys2Proof.Machine
end

section
/-!
PROOFS. The bytes of the replies (R180): a layout's rule has one function that follows it, and each kind of result is
written in those functions.
-/
namespace Sys2Proof.Machine

-- One theorem after another: many at once would each hold a stack of their own.
set_option Elab.async false

/-! ### The layouts' rules have one function each -/

/-- Two functions that write numbers least significant byte first are one. -/
theorem leBytes_unique {le : Nat → Nat → List Byte} (zero : ∀ n, le 0 n = [])
    (succ : ∀ k n, le (k + 1) n = BitVec.ofNat 8 n :: le k (n / 256)) : le = leBytes := by
  funext k n
  induction k generalizing n with
  | zero => exact zero n
  | succ k ih => rw [succ, ih, leBytes]

/-- The rule of optional fields has one function. -/
theorem optionalBytes_unique {opt : Option (List Byte) → List Byte} (absent : opt none = [0x00])
    (present : ∀ l, opt (some l) = 0x01 :: l) : opt = optionalBytes id := by
  funext x
  cases x with
  | none => exact absent
  | some l => exact present l

/-- The rule of lists has one function. -/
theorem listBytes_unique {list : List (List Byte) → List Byte}
    (counted : ∀ l, list l = leBytes 1 l.length ++ l.flatten) : list = listBytes id := by
  funext l
  rw [counted, listBytes, List.flatMap_id]
  rfl

/-- The positions of the slot states have one function. -/
theorem SlotState.code_unique {state : SlotState → Nat}
    (codes : state .empty = 0 ∧ state .live = 1 ∧ state .held = 2 ∧ state .anchor = 3) :
    state = SlotState.code := by
  obtain ⟨empty, live, held, anchor⟩ := codes
  funext x
  cases x with
  | empty => exact empty
  | live => exact live
  | held => exact held
  | anchor => exact anchor

/-- An optional field is written the same whether its bytes are formed before or after its presence is judged. -/
theorem optionalBytes_map {α : Type} (f : α → List Byte) (x : Option α) :
    optionalBytes id (x.map f) = optionalBytes f x := by cases x <;> rfl

/-- A list is written the same whether its items' bytes are formed before or after they are counted. -/
theorem listBytes_map {α : Type} (f : α → List Byte) (l : List α) : listBytes id (l.map f) = listBytes f l := by
  rw [listBytes, listBytes, List.length_map, List.flatMap_map]
  rfl

/-- `listBytes_map`, for a writing of the items that agrees with `f`. -/
theorem listBytes_map_congr {α : Type} {f g : α → List Byte} (agree : ∀ x, g x = f x) (l : List α) :
    listBytes id (l.map g) = listBytes f l := by rw [funext agree, listBytes_map]

/-- `optionalBytes_map`, for a writing of the field that agrees with `f`. -/
theorem optionalBytes_map_congr {α : Type} {f g : α → List Byte} (agree : ∀ x, g x = f x) (x : Option α) :
    optionalBytes id (x.map g) = optionalBytes f x := by rw [funext agree, optionalBytes_map]

/-! ### The causes -/

/-- Every member one place higher doubles a set. -/
theorem foldr_pow_succ {α : Type} (p : α → Bool) (e : α → Nat) (l : List α) :
    l.foldr (fun i n => if p i then n + 2 ^ (e i + 1) else n) 0 =
      2 * l.foldr (fun i n => if p i then n + 2 ^ e i else n) 0 := by
  induction l with
  | nil => rfl
  | cons i l ih =>
    simp only [List.foldr_cons, ih]
    split
    · rw [Nat.pow_succ]; omega
    · rfl

/-- A set written as a sum of the powers of its members is the selector of its marks. -/
theorem foldr_pow_eq_selectorOf {n : Nat} (p : Fin n → Bool) :
    (List.finRange n).foldr (fun i m => if p i then m + 2 ^ i.val else m) 0 = selectorOf ((List.finRange n).map p) := by
  induction n with
  | zero => rfl
  | succ n ih =>
    rw [List.finRange_succ, List.foldr_cons, List.foldr_map, List.map_cons, List.map_map, selectorOf, ← ih]
    simp only [Fin.val_succ, foldr_pow_succ, Function.comp]
    cases p 0 <;> simp; omega

/-- The pending set is the selector of the pending flags. -/
theorem NoticeUnit.pendingSet_eq (u : NoticeUnit) :
    u.pendingSet = selectorOf ((List.finRange 13).map fun i => u.causes[i].pending) :=
  foldr_pow_eq_selectorOf _

/-- The pending set has thirteen bits. -/
theorem NoticeUnit.pendingSet_lt (u : NoticeUnit) : u.pendingSet < 8192 := by
  have bound := selectorOf_lt ((List.finRange 13).map fun i => u.causes[i].pending)
  rwa [← u.pendingSet_eq, List.length_map, List.length_finRange] at bound

/-- A cause's bit of the pending set is its flag. -/
theorem NoticeUnit.testBit_pendingSet (u : NoticeUnit) (i : Fin 13) :
    u.pendingSet.testBit i.val = u.causes[i].pending := by
  rw [u.pendingSet_eq, selectorOf_testBit]
  simp [List.getD_eq_getElem?_getD]

/-- The causes in their order, one by one. -/
theorem NoticeUnit.flatMap_causes (u : NoticeUnit) (f : Notice → List Byte) :
    u.causes.toList.flatMap f = ((List.finRange 13).map fun i => f u.causes[i]).flatten := by
  have causes : u.causes.toList = (List.finRange 13).map fun i => u.causes[i] := by
    apply List.ext_getElem <;> simp
  rw [causes, List.flatMap_map, List.flatMap_def]

/-- The fields of READ CAUSES (R172, R178). -/
theorem Results.bytes_causes (u : NoticeUnit) :
    Results.bytes (.causes u) =
      leBytes 2 u.pendingSet ++ ((List.finRange 13).map fun i => leBytes 4 u.causes[i].detail).flatten ++
        leBytes 2 u.mask.toNat := by
  change causesBytes u = _
  rw [causesBytes, u.flatMap_causes]
  rfl

/-! ### Slots, channels and whole replies -/

/-- READ ENTRY of an EMPTY slot (R161). -/
theorem Results.bytes_entry_of_none {c : Cell} (i : Slot) (empty : c.entry = none) :
    Results.bytes (.entry i c) = slotBytes i ++ byte1 SlotState.empty.code ++ bytes2 c.generation := by
  simp only [Results.bytes, cellBytes, Cell.state, empty, List.append_nil]

/-- READ ENTRY of any other slot (R161). -/
theorem Results.bytes_entry_of_some {c : Cell} {e : Entry} (i : Slot) (entry : c.entry = some e) :
    Results.bytes (.entry i c) = slotBytes i ++ byte1 e.state.code ++ bytes2 c.generation ++ e.bytes := by
  simp only [Results.bytes, cellBytes, Cell.state, entry]

theorem GlideState.code_eq (g : GlideState) : g.code = if g = .gliding then 1 else 0 := by cases g <;> rfl

theorem LockState.code_eq (l : LockState) : l.code = if l = .locked then 1 else 0 := by cases l <;> rfl

/-- Settles O53: the given layout functions are the model's (`leBytes_unique` and its like); then each kind of result is
its fields in their order, with the enumerations by their cases. -/
theorem replyBytesFollowTheirLayout : Obligations.ReplyBytesFollowTheirLayout := by
  intro le opt list signed key grade state leZero leSucc optNone optSome listEq signedEq keyEq gradeEq codes
  obtain rfl := leBytes_unique leZero leSucc
  obtain rfl := optionalBytes_unique optNone optSome
  obtain rfl := listBytes_unique listEq
  obtain rfl := SlotState.code_unique codes
  obtain rfl : signed = signedBytes2 := funext signedEq
  obtain rfl : key = keyBytes := funext keyEq
  obtain rfl : grade = gradeBytes := funext gradeEq
  clear leZero leSucc optNone optSome listEq signedEq keyEq gradeEq codes
  refine ⟨⟨rfl, rfl, rfl⟩, fun x => ?refused, fun _ => rfl, rfl, fun _ _ => rfl, fun _ => rfl, fun _ _ => rfl,
    fun f n m => ?found, fun _ => rfl, fun _ _ _ _ => rfl, fun _ _ _ _ _ => rfl, fun _ => rfl, fun _ _ => rfl,
    fun u => ?causes, fun i c empty => ?empty, fun i c e entry front front_eq => ⟨fun st x body => ?illuminant,
    fun a body => ?anchor⟩, fun ch => ?channel, fun r => ?derivations, fun r => ?status⟩
  case refused => cases x <;> rfl
  case found => rw [optionalBytes_map]; rfl
  case causes => exact ⟨u.pendingSet, u.pendingSet_lt, u.testBit_pendingSet, Results.bytes_causes u⟩
  case empty => exact Results.bytes_entry_of_none i empty
  case illuminant =>
    rw [Results.bytes_entry_of_some i entry, front_eq, Entry.bytes, body, optionalBytes_map]
    simp only [Body.bytes, List.append_assoc]
    generalize e.origin = origin
    generalize x.vigour = vigour
    cases origin <;> cases vigour <;> simp only [originBytes, listBytes_map] <;> rfl
  case anchor =>
    rw [Results.bytes_entry_of_some i entry, front_eq, Entry.bytes, body, optionalBytes_map]
    simp only [Body.bytes, List.append_assoc]
    generalize a.lastOutcome = outcome
    generalize e.origin = origin
    cases origin <;> cases outcome <;> rfl
  case channel =>
    simp only [optionalBytes_map, Results.bytes, channelBytes, configBytes, List.append_assoc,
      GlideState.code_eq, LockState.code_eq]
    generalize ch.lastOutcome = outcome
    rcases outcome with _ | ⟨_ | _⟩ <;> rfl
  case derivations =>
    rw [listBytes_map_congr (f := derivationBytes) ?request, optionalBytes_map_congr (f := endingBytes) ?ending]
    case request =>
      intro q
      generalize stage_eq : q.stage = stage
      simp only [optionalBytes_map, derivationBytes, List.append_assoc, stage_eq, listBytes_map]
      cases stage <;> rfl
    case ending =>
      intro e
      generalize ending_eq : e.ending = ending
      simp only [endingBytes, List.append_assoc, ending_eq]
      cases ending <;> rfl
    rfl
  case status =>
    generalize closing_eq : r.closing = closing
    generalize receiving_eq : r.receiving = receiving
    simp only [optionalBytes_map, Results.bytes, statusBytes, List.append_assoc, closing_eq,
      receiving_eq]
    cases closing <;> cases receiving <;> rfl

end Sys2Proof.Machine
end

section
/-!
PROOFS. Every command answers a next state and leaves the queue of commands as it stands (log entries 1 and 23): what
each operation of the part leaves of the queue, then the commands kind by kind.
-/
namespace Sys2Proof.Machine

-- One theorem after another: many at once would each hold a stack of their own.
set_option Elab.async false

/-! ### The Derivation Unit leaves the queue of commands -/

@[simp] theorem State.updateRequest_pending (s : State) (n : Nat) (f : Derivation → Derivation) :
    (s.updateRequest n f).pending = s.pending := rfl

@[simp] theorem State.chooseDerive_pending (s : State) : s.chooseDerive.pending = s.pending :=
  State.chooseDerive_field State.pending s fun _ _ _ => rfl

@[simp] theorem State.leaveQueue_pending (s : State) (p : Derivation → Bool) :
    (s.leaveQueue p).pending = s.pending := rfl

@[simp] theorem State.endRequest_pending (s : State) (q : Derivation) (e : Ending) :
    (s.endRequest q e).pending = s.pending := rfl

@[simp] theorem State.emptyQueue_pending (s : State) : s.emptyQueue.pending = s.pending := rfl

@[simp] theorem State.issue_pending (s : State) (c : Chan) (r : ChannelReading) (n : Nat) :
    (s.issue c r n).pending = s.pending := State.chooseDerive_pending _

@[simp] theorem State.considerMiss_pending (s : State) (c : Chan) (r : ChannelReading) (n : Nat) :
    (s.considerMiss c r n).pending = s.pending := by
  rcases s.considerMiss_cases c r n with e | ⟨q, -, e⟩ | e | ⟨-, e⟩ <;> simp [e]

@[simp] theorem State.searchFor_pending (s : State) (q : Derivation) : (s.searchFor q).pending = s.pending := by
  refine (State.chooseDerive_pending _).trans ?_
  split <;> rfl

@[simp] theorem State.startBlends_pending (s : State) : s.startBlends.pending = s.pending := rfl

@[simp] theorem State.completeBlend_pending (s : State) : s.completeBlend.pending = s.pending := by
  unfold State.completeBlend
  split
  · rfl
  · simp only
    split
    · rfl
    · exact State.chooseDerive_pending _

@[simp] theorem State.placeLearned_pending (s : State) (q : Derivation) (g : Grade) :
    (s.placeLearned q g).pending = s.pending := by
  unfold State.placeLearned
  split <;> rfl

@[simp] theorem State.installRoom_pending (s : State) (q : Derivation) (g : Grade) :
    (s.installRoom q g).pending = s.pending := by
  unfold State.installRoom
  split
  · exact State.placeLearned_pending s q g
  · split
    · exact State.placeLearned_pending _ q g
    · rfl

@[simp] theorem State.installStale_pending (s : State) (q : Derivation) : (s.installStale q).pending = s.pending := by
  unfold State.installStale
  split <;> rfl

@[simp] theorem State.installFor_pending (s : State) (q : Derivation) (g : Grade) :
    (s.installFor q g).pending = s.pending := by
  refine (State.chooseDerive_pending _).trans ?_
  split
  · exact State.installStale_pending s q
  · split
    · rfl
    · exact State.installRoom_pending s q g

/-! ### Frames and sweeps leave the queue of commands -/

@[simp] theorem State.deliver_pending (s : State) (n : Nat) (c : Chan) (o : ChannelOutcome) :
    (s.deliver n c o).pending = s.pending := by
  rw [State.deliver_eq]

@[simp] theorem State.workDark_pending (s : State) (w : FrameWork) (c : Chan) :
    (s.workDark w c).pending = s.pending := State.deliver_pending _ _ _ _

@[simp] theorem State.completeFrame_pending (s : State) (waiting : Option ClosedFrame) :
    (s.completeFrame waiting).pending = s.pending := by
  cases waiting <;> rfl

@[simp] theorem State.runParts_pending (w : FrameWork) (waiting : Option ClosedFrame) (l : List Chan) (s : State) :
    (s.runParts w waiting l).pending = s.pending :=
  State.runParts_keeps (P := fun u => u.pending = s.pending) w waiting
    (fun u h => (u.completeFrame_pending waiting).trans h) (fun _ _ _ _ h => h)
    (fun u c h => (u.workDark_pending w c).trans h) (fun _ _ _ _ h => h) l s rfl

@[simp] theorem State.continuePart_pending (s : State) (w : FrameWork) (waiting : Option ClosedFrame) (c : Chan)
    (l : List AnchorReading) : (s.continuePart w waiting c l).pending = s.pending := by
  unfold State.continuePart
  split
  · rfl
  · exact State.runParts_pending w waiting _ s

@[simp] theorem State.startFrame_pending (s : State) : s.startFrame.pending = s.pending := by
  unfold State.startFrame
  split
  · exact State.runParts_pending _ none chans s
  · rfl

@[simp] theorem State.matchFound_pending (s : State) (n : Nat) (c : Chan) (i : Slot) :
    (s.matchFound n c i).pending = s.pending := by
  unfold State.matchFound
  split
  · refine (State.deliver_pending _ n c .matched).trans ?_
    split <;> rfl
  · rfl

@[simp] theorem State.matchMissed_pending (s : State) (n : Nat) (c : Chan) (input : ChannelInput) :
    (s.matchMissed n c input).pending = s.pending := by
  refine (State.deliver_pending _ n c .miss).trans ?_
  split
  · exact State.considerMiss_pending _ c _ n
  · rfl

@[simp] theorem State.matchChannel_pending (s : State) (w : FrameWork) (c : Chan) (k : Key) (mode : MatchMode) :
    (s.matchChannel w c k mode).pending = s.pending := by
  unfold State.matchChannel
  split
  · exact State.matchFound_pending s _ c _
  · exact State.matchMissed_pending s _ c _

@[simp] theorem State.chargeDoubt_pending (s : State) (i : Slot) : (s.chargeDoubt i).pending = s.pending := by
  unfold State.chargeDoubt
  split
  · rfl
  · simp only
    split <;> rfl

@[simp] theorem State.failAnchor_pending (s : State) (i : Slot) (e : Entry) (a : AnchorBody) (c : Chan) :
    (s.failAnchor i e a c).pending = s.pending := by
  unfold State.failAnchor
  split
  · simp only
    split
    · exact State.chargeDoubt_pending _ _
    · rfl
  · rfl

@[simp] theorem State.checkAnchor_pending (s : State) (r : AnchorReading) (tag : Nat) (inSet : Bool) :
    (s.checkAnchor r tag inSet).pending = s.pending := by
  unfold State.checkAnchor
  split
  · split
    · split
      · rfl
      split
      · rfl
      split
      · rfl
      · exact State.failAnchor_pending s _ _ _ _
    · rfl
  · rfl

@[simp] theorem State.startSweep_pending (s : State) : s.startSweep.pending = s.pending := by
  rw [State.startSweep_eq]

@[simp] theorem State.sweepBlock_pending (s : State) (w : Sweep) (b : Block) :
    (s.sweepBlock w b).pending = s.pending := by
  unfold State.sweepBlock State.afterStep
  split <;> rfl

/-! ### What comes about at once leaves the queue of commands -/

@[simp] theorem State.performChannel_pending (s : State) : s.performChannel.pending = s.pending := by
  unfold State.performChannel
  split
  · split <;> rfl
  · rfl

@[simp] theorem State.catchUp_pending (s : State) : s.catchUp.pending = s.pending := by
  simp [State.catchUp]

/-! ### Reading words leave the queue of commands -/

theorem State.takeWord_pending {f : State → State} (hf : ∀ u : State, (f u).pending = u.pending) (s : State) :
    (s.takeWord f).pending = s.pending := by
  unfold State.takeWord
  split
  · exact hf s
  · rfl

@[simp] theorem State.openFrame_pending (s : State) (n tag : Nat) : (s.openFrame n tag).pending = s.pending := by
  unfold State.openFrame
  split
  · rfl
  split
  · rfl
  · rw [State.acceptFrame_eq]

@[simp] theorem State.bufferZone_pending (s : State) (z : Zone) (r : ZoneReading) :
    (s.bufferZone z r).pending = s.pending := by
  unfold State.bufferZone
  split <;> rfl

@[simp] theorem State.bufferAnchor_pending (s : State) (r : AnchorReading) :
    (s.bufferAnchor r).pending = s.pending := by
  unfold State.bufferAnchor
  split
  · rfl
  · split <;> rfl
  · rfl

@[simp] theorem State.closeFrame_pending (s : State) : s.closeFrame.pending = s.pending := by
  unfold State.closeFrame
  split <;> rfl

/-! ### Requests, as they are taken, leave the queue of commands -/

theorem State.openMessage_pending {f : State → State} (hf : ∀ u : State, (f u).pending = u.pending) (s : State)
    (tail : List Byte) : (s.openMessage tail f).pending = s.pending := by
  unfold State.openMessage
  split
  · split
    · exact hf _
    · rfl
    · rfl
  · rfl

theorem State.takeMessage_pending {f : State → State} (hf : ∀ u : State, (f u).pending = u.pending) (s : State) :
    (s.takeMessage f).pending = s.pending := State.openMessage_pending hf _ _

@[simp] theorem State.submitChecked_pending {α : Type} (s : State) (op : α → ServiceOp) (check : Except Reason α) :
    (s.submitChecked op check).pending = s.pending := by
  cases check <;> rfl

@[simp] theorem State.setCursor_pending (s : State) (slot step : Nat) :
    (s.setCursor slot step).pending = s.pending := by
  unfold State.setCursor
  split
  · split <;> rfl
  · rfl

@[simp] theorem State.setProfile_pending (s : State) (profile : Nat) (f : ProfileFields) :
    (s.setProfile profile f).pending = s.pending := by
  unfold State.setProfile
  split
  · split <;> rfl
  · rfl

@[simp] theorem State.setServiceMatch_pending (s : State) (profile filter : Nat) :
    (s.setServiceMatch profile filter).pending = s.pending := by
  unfold State.setServiceMatch
  split <;> rfl

@[simp] theorem State.stageProfile_pending (s : State) (profile : Nat) :
    (s.stageProfile profile).pending = s.pending := by
  unfold State.stageProfile
  split <;> rfl

@[simp] theorem State.takeSetChannel_pending (s : State) (channel : Nat) (f : ChannelFields) :
    (s.takeSetChannel channel f).pending = s.pending := by
  unfold State.takeSetChannel
  split
  · split
    · split <;> rfl
    · rfl
  · rfl

@[simp] theorem State.readChannel_pending (s : State) (channel : Nat) :
    (s.readChannel channel).pending = s.pending := by
  unfold State.readChannel
  split <;> rfl

@[simp] theorem State.setLearning_pending (s : State) (reserve eviction : Option Nat) :
    (s.setLearning reserve eviction).pending = s.pending := by
  unfold State.setLearning
  split <;> rfl

@[simp] theorem State.setClass_pending (s : State) (cls : Nat) (f : ClassFields) :
    (s.setClass cls f).pending = s.pending := by
  unfold State.setClass
  split
  · simp only
    split <;> rfl
  · rfl

@[simp] theorem State.openScope_pending (s : State) : s.openScope.pending = s.pending := by
  unfold State.openScope
  split <;> rfl

@[simp] theorem State.takeCloseScope_pending (s : State) (mode : Nat) :
    (s.takeCloseScope mode).pending = s.pending := by
  unfold State.takeCloseScope
  split
  · rfl
  split <;> rfl

@[simp] theorem State.clearCauses_pending (s : State) (causes : Nat) :
    (s.clearCauses causes).pending = s.pending := by
  unfold State.clearCauses
  split <;> rfl

@[simp] theorem State.setNoticeMask_pending (s : State) (causes : Nat) :
    (s.setNoticeMask causes).pending = s.pending := by
  unfold State.setNoticeMask
  split <;> rfl

/-! ### SERVICE's operations, at their grant, leave the queue of commands -/

/-- A single-slot operation leaves the queue of commands when its own work at the slot does (R151 to R153). -/
theorem State.atSlot_pending {act : State → Slot → State × Reply}
    (hact : ∀ (u : State) (i : Slot), (act u i).1.pending = u.pending) (s : State) (t : Target) :
    (s.atSlot t act).pending = s.pending := by
  refine (State.moveCursor_pending _ t.viaCursor).trans ?_
  split
  · exact hact s _
  · rfl

theorem State.amendEntry_pending {s u : State} {i : Slot} {e : Entry} {bump : Bool} {f : Entry → Entry}
    (h : s.amendEntry i e bump f = some u) : u.pending = s.pending := by
  unfold State.amendEntry at h
  split at h
  · cases h; rfl
  · cases h

theorem State.placeAt_pending (n : NewEntry) (s : State) (i : Slot) :
    (State.placeAt n s i).1.pending = s.pending := by
  unfold State.placeAt
  split
  · rfl
  split
  · rfl
  split <;> rfl

theorem State.amendAt_pending (c : Change) (s : State) (i : Slot) :
    (State.amendAt c s i).1.pending = s.pending := by
  unfold State.amendAt
  split
  · rfl
  split
  · rfl
  split
  · rfl
  split
  · next h => exact State.amendEntry_pending h
  · rfl

theorem State.setStateAt_pending (st : LightState) (s : State) (i : Slot) :
    (State.setStateAt st s i).1.pending = s.pending := by
  unfold State.setStateAt
  split
  · rfl
  split
  · rfl
  split
  · rfl
  split
  · next h =>
    rw [← State.amendEntry_pending h]
    simp only
    split <;> rfl
  · rfl

theorem State.setPinAt_pending (pin : Bool) (s : State) (i : Slot) :
    (State.setPinAt pin s i).1.pending = s.pending := by
  unfold State.setPinAt
  split
  · rfl
  split
  · next h => exact State.amendEntry_pending h
  · rfl

theorem State.clearCountsAt_pending (s : State) (i : Slot) : (s.clearCountsAt i).1.pending = s.pending := by
  unfold State.clearCountsAt
  split <;> rfl

theorem State.retireAt_pending (s : State) (i : Slot) : (s.retireAt i).1.pending = s.pending := by
  unfold State.retireAt
  split <;> rfl

@[simp] theorem State.dropScope_pending (s : State) (d : Nat) : (s.dropScope d).pending = s.pending :=
  State.chooseDerive_pending _

@[simp] theorem State.keepScope_pending (s : State) (d : Nat) : (s.keepScope d).pending = s.pending := rfl

theorem State.dropAll_pending (d : Nat) (s : State) : (s.dropAll d).pending = s.pending := by
  rw [State.dropAll_eq]

@[simp] theorem State.restartAll_pending (s : State) : s.restartAll.pending = s.pending :=
  State.dropAll_pending s.depth s

@[simp] theorem State.clearAll_pending (s : State) : s.clearAll.pending = s.pending := rfl

/-! ### Every command -/

section
variable {c : Instr} {s t : State}

/-- A reading word leaves the queue of commands. -/
theorem pending_of_exec_word (hc : isReadingWord c = true) (e : exec c s = .next t) : t.pending = s.pending := by
  have caught := s.catchUp_pending
  cases c with
  | openWord number tag => cases e; exact (State.takeWord_pending (fun u => u.openFrame_pending _ _) _).trans caught
  | zoneWord zone u v level confidence =>
    cases e; exact (State.takeWord_pending (fun u => u.bufferZone_pending _ _) _).trans caught
  | anchorWord slot channel r g b =>
    cases e; exact (State.takeWord_pending (fun u => u.bufferAnchor_pending _) _).trans caught
  | closeWord => cases e; exact (State.takeWord_pending State.closeFrame_pending _).trans caught
  | unknownKindWord kind =>
    cases e
    refine (State.takeWord_pending (fun u => ?_) _).trans caught
    rfl
  | _ => cases hc

/-- A select period that carries no request taken leaves the queue of commands. -/
theorem pending_of_exec_period (hc : isPeriod c = true) (e : exec c s = .next t) : t.pending = s.pending := by
  have caught := s.catchUp_pending
  cases c with
  | fetch shown extra =>
    cases e
    split
    · split <;> exact caught
    · exact caught
  | fetchCutShort got =>
    cases e
    split
    · split
      · split <;> exact caught
      · exact caught
    · exact caught
  | messageDropped shown code =>
    cases e
    split <;> exact caught
  | messageCutShort code =>
    cases e
    refine (State.openMessage_pending (fun u => ?_) _ _).trans caught
    rfl
  | selectAborted => cases e; exact caught
  | malformed code =>
    cases e
    refine (State.takeMessage_pending (fun u => ?_) _).trans caught
    rfl
  | _ => cases hc

/-- A request message leaves the queue of commands. -/
theorem pending_of_exec_request (hc : isRequest c = true) (e : exec c s = .next t) : t.pending = s.pending := by
  have caught := s.catchUp_pending
  cases c with
  | seek | seekNext =>
    cases e
    refine (State.takeMessage_pending (fun u => ?_) _).trans caught
    split <;> rfl
  | readDerivations | readStatus | readCauses | restart | clearTable =>
    cases e
    refine (State.takeMessage_pending (fun u => ?_) _).trans caught
    rfl
  | place | amend | retire | setState | pin | unpin | clearCounts | readEntry | setCursor | setProfile
  | setServiceMatch | stageProfile | setChannel | readChannel | setLearning | setClass | openScope | closeScope
  | clearCauses | setNoticeMask =>
    cases e
    refine (State.takeMessage_pending (fun u => ?_) _).trans caught
    simp
  | _ => cases hc

/-- A grant of SERVICE's operation leaves the queue of commands. -/
theorem pending_of_exec_serviceGrant (hc : isServiceGrant c = true) (e : exec c s = .next t) :
    t.pending = s.pending := by
  have caught := s.catchUp_pending
  cases c with
  | placeGrant =>
    cases e
    split
    · exact (State.atSlot_pending (State.placeAt_pending _) _ _).trans caught
    · exact caught
  | amendGrant =>
    cases e
    split
    · exact (State.atSlot_pending (State.amendAt_pending _) _ _).trans caught
    · exact caught
  | retireGrant =>
    cases e
    split
    · exact (State.atSlot_pending State.retireAt_pending _ _).trans caught
    · exact caught
  | setStateGrant =>
    cases e
    split
    · exact (State.atSlot_pending (State.setStateAt_pending _) _ _).trans caught
    · exact caught
  | pinGrant | unpinGrant =>
    cases e
    split
    · exact (State.atSlot_pending (State.setPinAt_pending _) _ _).trans caught
    · exact caught
  | clearCountsGrant =>
    cases e
    split
    · exact (State.atSlot_pending State.clearCountsAt_pending _ _).trans caught
    · exact caught
  | readEntryGrant =>
    cases e
    split
    · exact (State.atSlot_pending (fun _ _ => rfl) _ _).trans caught
    · exact caught
  | seekGrant | seekNextGrant | keepWalk | clearTableWalk =>
    cases e
    split <;> exact caught
  | dropWalk =>
    cases e
    split
    · exact (State.dropScope_pending _ _).trans caught
    · exact caught
  | restartWalk =>
    cases e
    split
    · exact (State.restartAll_pending _).trans caught
    · exact caught
  | _ => cases hc

/-- Every command leaves the queue of commands. -/
theorem pending_of_exec (e : exec c s = .next t) : t.pending = s.pending := by
  have caught := s.catchUp_pending
  cases c with
  | powerOn | reset | resetRelease | blendStart => cases e; rfl
  | partReady =>
    cases e
    split <;> rfl
  | frameWorkStart => cases e; exact s.performChannel.startFrame_pending.trans s.performChannel_pending
  | sweepStart => cases e; exact s.startSweep_pending
  | setChannelPerform => cases e; exact s.performChannel_pending
  | frameMatch =>
    cases e
    split
    · exact ((State.continuePart_pending _ _ _ _ _).trans (State.matchChannel_pending _ _ _ _ _)).trans caught
    · exact caught
  | anchorCheck =>
    cases e
    split
    · exact ((State.continuePart_pending _ _ _ _ _).trans (State.checkAnchor_pending _ _ _ _)).trans caught
    · exact caught
  | search =>
    cases e
    split
    · split
      · exact (State.searchFor_pending _ _).trans caught
      · exact caught
    · exact caught
  | blendComplete => cases e; exact s.catchUp.completeBlend_pending.trans caught
  | install =>
    cases e
    split
    · split
      · split
        · exact (State.installFor_pending _ _ _).trans caught
        · exact caught
      · exact caught
    · exact caught
  | sweepStep =>
    cases e
    split
    · exact (State.sweepBlock_pending _ _ _).trans caught
    · exact caught
  | gradePortPull => cases e; exact caught
  | openWord | zoneWord | anchorWord | closeWord | unknownKindWord => exact pending_of_exec_word rfl e
  | fetch | fetchCutShort | messageDropped | messageCutShort | selectAborted | malformed =>
    exact pending_of_exec_period rfl e
  | place | amend | retire | setState | pin | unpin | clearCounts | readEntry | seek | seekNext | setCursor
  | setProfile | setServiceMatch | stageProfile | setChannel | readChannel | setLearning | readDerivations
  | setClass | openScope | closeScope | readStatus | readCauses | clearCauses | setNoticeMask | restart
  | clearTable =>
    exact pending_of_exec_request (by simp [isRequest, encodeMessage]) e
  | placeGrant | amendGrant | retireGrant | setStateGrant | pinGrant | unpinGrant | clearCountsGrant
  | readEntryGrant | seekGrant | seekNextGrant | dropWalk | keepWalk | restartWalk | clearTableWalk =>
    exact pending_of_exec_serviceGrant rfl e

end

/-- No command faults or is refused (log entry 23): each arm of `exec` answers a next state. -/
theorem exec_answers (c : Instr) (s : State) : ∃ t, exec c s = .next t := by
  cases c <;> exact ⟨_, rfl⟩

/-- Settles O2: each command answers, and what it answers has the queue it started with. -/
theorem commandsAnswerAndKeepQueue : Obligations.CommandsAnswerAndKeepQueue := fun c s =>
  have ⟨t, answer⟩ := exec_answers c s
  ⟨t, answer, pending_of_exec answer⟩

end Sys2Proof.Machine
end
